-- ==== Sys2Proof/Word.lean ====
section
/-! DEFINITION. The widths of the PFE: the 32-bit host word, the byte and the nibble of the pixel buffers, and the level of a
line (00_scope.md R11, R13, R14). -/

namespace Sys2Proof

/-- A host register or a command word: 32 bits (10_state.md R37, 30_encoding.md R110). -/
abbrev Word := BitVec 32

/-- A byte of FB, of TB or of the wire (20_memory.md R80, R91). -/
abbrev Byte := BitVec 8

/-- The 4-bit palette code of one pixel (00_scope.md R16). -/
abbrev Nibble := BitVec 4

/-- The level of a line: `false` is level 0, `true` is level 1 (20_memory.md R91). -/
abbrev Level := Bool

end Sys2Proof
end

