-- ==== Sys2Proof/Syntax.lean ====
section
/-! DEFINITION. The host operations (30_encoding.md R119): one constructor per row of spec/opcode_table.json, with the immediate
operands of the row's format (R111 to R116). Operands in ARG registers (R117) are read by the meanings. -/

namespace Sys2Proof

/-- A host operation with its immediate operands (30_encoding.md R119). -/
inductive Instr where
  /-- INIT, format N -/
  | init
  /-- RENDER, format N -/
  | render
  /-- FLUSH, format N -/
  | flush
  /-- CLOSE, format N -/
  | close
  /-- RESET_PANEL, format N -/
  | resetPanel
  /-- WAIT_BUSY, format W -/
  | waitBusy (stage : BitVec 8) (timeout : BitVec 16)
  /-- WRITE_CMD, format B -/
  | writeCmd (byte : Byte)
  /-- WRITE_DATA, format B -/
  | writeData (byte : Byte)
  /-- WRITE_BUFFER, format N -/
  | writeBuffer
  /-- INIT_SEQ, format N -/
  | initSeq
  /-- TURN_ON_DISPLAY, format N -/
  | turnOnDisplay
  /-- FB_CLEAR, format C -/
  | fbClear (color : Nibble)
  /-- FB_GET, format P with C = 0 and T = 0 -/
  | fbGet (x : BitVec 10) (y : BitVec 9)
  /-- FB_SET, format P with T = 0 -/
  | fbSet (x : BitVec 10) (y : BitVec 9) (c : Nibble)
  /-- ROTATE, format N -/
  | rotate
  /-- QUANTIZE, format RGB -/
  | quantize (r g b : Byte)
  /-- MATCH, format RGB -/
  | matchColor (r g b : Byte)
  /-- DITHER, format RGB -/
  | dither (r g b : Byte)
  /-- MAP_PIXEL, format RGB -/
  | mapPixel (r g b : Byte)
  /-- ORIENT, format P with C = 0 -/
  | orient (x : BitVec 10) (y : BitVec 9) (t : Bool)
  /-- AUTO_DETECT, format N -/
  | autoDetect
  /-- RESOLVE_OPTS, format N -/
  | resolveOpts
deriving DecidableEq, Repr

end Sys2Proof
end

