-- ==== Sys2Proof/WellFormed.lean ====
section
/-! DEFINITION. Which operations are well formed: the coordinates of a format P operation lie on the panel (30_encoding.md R121).
Every other immediate operand is in range by its width. -/

namespace Sys2Proof

/-- A destination coordinate of the native 800x480 space: `X <= 799` and `Y <= 479` (30_encoding.md R121). -/
def coordOnPanel (x : BitVec 10) (y : BitVec 9) : Bool :=
  decide (x.toNat ≤ 799) && decide (y.toNat ≤ 479)

/-- The checks on an operation's immediate operands that do not depend on a register (30_encoding.md R121). -/
def Instr.wf : Instr → Bool
  | .fbGet x y => coordOnPanel x y
  | .fbSet x y _ => coordOnPanel x y
  | .orient x y _ => coordOnPanel x y
  | .init | .render | .flush | .close | .resetPanel | .waitBusy _ _ | .writeCmd _ | .writeData _ | .writeBuffer | .initSeq
  | .turnOnDisplay | .fbClear _ | .rotate | .quantize _ _ _ | .matchColor _ _ _ | .dither _ _ _ | .mapPixel _ _ _
  | .autoDetect | .resolveOpts => true

end Sys2Proof
end

