-- ==== Sys2Proof/Decode.lean ====
section
/-! DEFINITION. The decoder of a command word, total on every 32-bit word and refusing by name (30_encoding.md R110 to R120), the
encoder written from the same format tables, and the opcode table as rows of match and mask (R119). The checks of R120 that need
an ARG register or a coordinate (steps 3 and 4) stand in the meanings: they raise the same IllegalCommand (log 21). -/

namespace Sys2Proof

/-- Why a command word decodes to no operation: the first failing check of 30_encoding.md R120 steps 1 and 2. -/
inductive DecodeError where
  /-- OPC is none of the 22 opcodes (R120 step 1) -/
  | unknownOpcode (opc : BitVec 8)
  /-- a reserved bit of the row's format is 1 (R120 step 2) -/
  | reservedBits (opc : BitVec 8)
deriving DecidableEq, Repr

/-- `OPC = word[31:24]` (30_encoding.md R110). -/
def opcField (w : Word) : BitVec 8 := w.extractLsb' 24 8

/-- `IMM = word[23:0]` (30_encoding.md R110). -/
def immField (w : Word) : BitVec 24 := w.extractLsb' 0 24

/-- Keep `i` when the reserved bits are 0, else refuse (30_encoding.md R120 step 2). -/
def whenReserved (reservedZero : Bool) (w : Word) (i : Instr) : Except DecodeError Instr :=
  if reservedZero then .ok i else .error (.reservedBits (opcField w))

/-- Format N: `IMM[23:0]` must be 0 (30_encoding.md R111). -/
def decodeN (w : Word) (i : Instr) : Except DecodeError Instr :=
  whenReserved (immField w == 0#24) w i

/-- Format B: `BYTE = IMM[7:0]`, `IMM[23:8]` must be 0 (30_encoding.md R112). -/
def decodeB (w : Word) (i : Byte → Instr) : Except DecodeError Instr :=
  whenReserved (w.extractLsb' 8 16 == 0#16) w (i (w.extractLsb' 0 8))

/-- Format C: `COLOR = IMM[3:0]`, `IMM[23:4]` must be 0 (30_encoding.md R113). -/
def decodeC (w : Word) (i : Nibble → Instr) : Except DecodeError Instr :=
  whenReserved (w.extractLsb' 4 20 == 0#20) w (i (w.extractLsb' 0 4))

/-- Format P, field `X = IMM[9:0]` (30_encoding.md R114). -/
def fieldX (w : Word) : BitVec 10 := w.extractLsb' 0 10

/-- Format P, field `Y = IMM[18:10]` (30_encoding.md R114). -/
def fieldY (w : Word) : BitVec 9 := w.extractLsb' 10 9

/-- Format P, field `C = IMM[22:19]` (30_encoding.md R114). -/
def fieldC (w : Word) : Nibble := w.extractLsb' 19 4

/-- Format P, field `T = IMM[23]` (30_encoding.md R114). -/
def fieldT (w : Word) : BitVec 1 := w.extractLsb' 23 1

/-- Format RGB: `R = IMM[23:16]`, `G = IMM[15:8]`, `B = IMM[7:0]`, no reserved bits (30_encoding.md R115). -/
def decodeRgb (w : Word) (i : Byte → Byte → Byte → Instr) : Except DecodeError Instr :=
  .ok (i (w.extractLsb' 16 8) (w.extractLsb' 8 8) (w.extractLsb' 0 8))

/-- Format W: `STAGE = IMM[23:16]`, `TIMEOUT = IMM[15:0]` (30_encoding.md R116). -/
def decodeW (w : Word) : Except DecodeError Instr :=
  .ok (.waitBusy (w.extractLsb' 16 8) (w.extractLsb' 0 16))

/-- The operation a command word stands for (30_encoding.md R119, R120 steps 1 and 2). -/
def decode (w : Word) : Except DecodeError Instr :=
  match opcField w with
  | 0x01#8 => decodeN w .init
  | 0x02#8 => decodeN w .render
  | 0x03#8 => decodeN w .flush
  | 0x04#8 => decodeN w .close
  | 0x10#8 => decodeN w .resetPanel
  | 0x11#8 => decodeW w
  | 0x12#8 => decodeB w .writeCmd
  | 0x13#8 => decodeB w .writeData
  | 0x14#8 => decodeN w .writeBuffer
  | 0x15#8 => decodeN w .initSeq
  | 0x16#8 => decodeN w .turnOnDisplay
  | 0x20#8 => decodeC w .fbClear
  | 0x21#8 => whenReserved (fieldC w == 0#4 && fieldT w == 0#1) w (.fbGet (fieldX w) (fieldY w))
  | 0x22#8 => whenReserved (fieldT w == 0#1) w (.fbSet (fieldX w) (fieldY w) (fieldC w))
  | 0x23#8 => decodeN w .rotate
  | 0x30#8 => decodeRgb w .quantize
  | 0x31#8 => decodeRgb w .matchColor
  | 0x32#8 => decodeRgb w .dither
  | 0x33#8 => decodeRgb w .mapPixel
  | 0x34#8 => whenReserved (fieldC w == 0#4) w (.orient (fieldX w) (fieldY w) (fieldT w == 1#1))
  | 0x35#8 => decodeN w .autoDetect
  | 0x36#8 => decodeN w .resolveOpts
  | opc => .error (.unknownOpcode opc)

/-- The instruction the decoder reads from an instruction whose bits are `w`. There is one length, 32 bits, and a command word is
written to CMD whole (30_encoding.md R110, R122), so the word is `w` itself with every bit above `nbits` zero. -/
def decodeTableWord (nbits w : Nat) : Option Instr :=
  match decode (BitVec.ofNat 32 (w % 2 ^ nbits)) with
  | .ok i => some i
  | .error _ => none

/-! ## The encoder -/

/-- Format N word (30_encoding.md R111). -/
def encodeN (opc : BitVec 8) : Word := opc ++ 0#24

/-- Format B word (30_encoding.md R112). -/
def encodeB (opc : BitVec 8) (byte : Byte) : Word := opc ++ 0#16 ++ byte

/-- Format C word (30_encoding.md R113). -/
def encodeC (opc : BitVec 8) (color : Nibble) : Word := opc ++ 0#20 ++ color

/-- Format P word (30_encoding.md R114). -/
def encodeP (opc : BitVec 8) (t : Bool) (c : Nibble) (y : BitVec 9) (x : BitVec 10) : Word :=
  opc ++ BitVec.ofBool t ++ c ++ y ++ x

/-- Format RGB word (30_encoding.md R115). -/
def encodeRgb (opc r g b : BitVec 8) : Word := opc ++ r ++ g ++ b

/-- Format W word (30_encoding.md R116). -/
def encodeW (opc stage : BitVec 8) (timeout : BitVec 16) : Word := opc ++ stage ++ timeout

/-- The command word of an operation (30_encoding.md R119). -/
def encode : Instr → Word
  | .init => encodeN 0x01#8
  | .render => encodeN 0x02#8
  | .flush => encodeN 0x03#8
  | .close => encodeN 0x04#8
  | .resetPanel => encodeN 0x10#8
  | .waitBusy stage timeout => encodeW 0x11#8 stage timeout
  | .writeCmd byte => encodeB 0x12#8 byte
  | .writeData byte => encodeB 0x13#8 byte
  | .writeBuffer => encodeN 0x14#8
  | .initSeq => encodeN 0x15#8
  | .turnOnDisplay => encodeN 0x16#8
  | .fbClear color => encodeC 0x20#8 color
  | .fbGet x y => encodeP 0x21#8 false 0#4 y x
  | .fbSet x y c => encodeP 0x22#8 false c y x
  | .rotate => encodeN 0x23#8
  | .quantize r g b => encodeRgb 0x30#8 r g b
  | .matchColor r g b => encodeRgb 0x31#8 r g b
  | .dither r g b => encodeRgb 0x32#8 r g b
  | .mapPixel r g b => encodeRgb 0x33#8 r g b
  | .orient x y t => encodeP 0x34#8 t 0#4 y x
  | .autoDetect => encodeN 0x35#8
  | .resolveOpts => encodeN 0x36#8

/-! ## The opcode table -/

/-- The match and mask of an operation's row of the opcode map (30_encoding.md R119): a word is the operation when
`w &&& mask = match`. -/
def rowOf : Instr → Word × Word
  | .init => (0x01000000#32, 0xFFFFFFFF#32)
  | .render => (0x02000000#32, 0xFFFFFFFF#32)
  | .flush => (0x03000000#32, 0xFFFFFFFF#32)
  | .close => (0x04000000#32, 0xFFFFFFFF#32)
  | .resetPanel => (0x10000000#32, 0xFFFFFFFF#32)
  | .waitBusy _ _ => (0x11000000#32, 0xFF000000#32)
  | .writeCmd _ => (0x12000000#32, 0xFFFFFF00#32)
  | .writeData _ => (0x13000000#32, 0xFFFFFF00#32)
  | .writeBuffer => (0x14000000#32, 0xFFFFFFFF#32)
  | .initSeq => (0x15000000#32, 0xFFFFFFFF#32)
  | .turnOnDisplay => (0x16000000#32, 0xFFFFFFFF#32)
  | .fbClear _ => (0x20000000#32, 0xFFFFFFF0#32)
  | .fbGet _ _ => (0x21000000#32, 0xFFF80000#32)
  | .fbSet _ _ _ => (0x22000000#32, 0xFF800000#32)
  | .rotate => (0x23000000#32, 0xFFFFFFFF#32)
  | .quantize _ _ _ => (0x30000000#32, 0xFF000000#32)
  | .matchColor _ _ _ => (0x31000000#32, 0xFF000000#32)
  | .dither _ _ _ => (0x32000000#32, 0xFF000000#32)
  | .mapPixel _ _ _ => (0x33000000#32, 0xFF000000#32)
  | .orient _ _ _ => (0x34000000#32, 0xFF780000#32)
  | .autoDetect => (0x35000000#32, 0xFFFFFFFF#32)
  | .resolveOpts => (0x36000000#32, 0xFFFFFFFF#32)

/-- The 22 rows of the opcode map in table order, match and mask (30_encoding.md R119). -/
def opcodeRows : List (Word × Word) :=
  [rowOf .init, rowOf .render, rowOf .flush, rowOf .close, rowOf .resetPanel, rowOf (.waitBusy 0 0), rowOf (.writeCmd 0),
   rowOf (.writeData 0), rowOf .writeBuffer, rowOf .initSeq, rowOf .turnOnDisplay, rowOf (.fbClear 0), rowOf (.fbGet 0 0),
   rowOf (.fbSet 0 0 0), rowOf .rotate, rowOf (.quantize 0 0 0), rowOf (.matchColor 0 0 0), rowOf (.dither 0 0 0),
   rowOf (.mapPixel 0 0 0), rowOf (.orient 0 0 false), rowOf .autoDetect, rowOf .resolveOpts]

end Sys2Proof
end

