-- ==== Sys2Proof/Machine/Types.lean ====
section
/-! DEFINITION. The names the spec gives to the PFE's inks, modes, driver states, errors, pins and wire events, and the shape of
an init step and of the source raster. What each name reads as in a register stands in Machine/Flags.lean. -/

namespace Sys2Proof.Machine

/-- A colour sample or a reference colour: three 8-bit channels (10_state.md R47, R50). -/
structure Rgb where
  r : Byte
  g : Byte
  b : Byte
deriving DecidableEq, Repr, Inhabited

/-- The six palette entries in declaration order (00_scope.md R7). -/
inductive Ink where
  | black | white | yellow | red | blue | green
deriving DecidableEq, Repr, Inhabited

/-- The states of the PanelProtocol state machine, the only values DRV_STATE holds (10_state.md R31, R42). -/
inductive DrvState where
  | uninitialized | busReady | panelConfigured | flushing | idle | closed
deriving DecidableEq, Repr, Inhabited

/-- The outcome kinds of an operation, the only values ERR holds (60_exceptions.md R320, 10_state.md R42). -/
inductive ErrKind where
  | ok | formatError | busError | timeoutError | allocationError | stateError | illegalCommand
deriving DecidableEq, Repr, Inhabited

/-- The colour-process modes (40_pixel_map.md R158, R165). -/
inductive ColorMode where
  | auto | forceConvert | assumeSixColor
deriving DecidableEq, Repr, Inhabited

/-- The path MAP_PIXEL reports in its PATH field (30_encoding.md R118): nearest, dither then nearest, exact match, match missed
then nearest. -/
inductive MapPath where
  | nearest | ditherNearest | exactMatch | missNearest
deriving DecidableEq, Repr, Inhabited

/-- The resolved, clamped render options (40_pixel_map.md R165): `rot180` is rotation 180, `ordered` is dithering Ordered. -/
structure Opts where
  rot180  : Bool
  mode    : ColorMode
  ordered : Bool
  tol     : Nat
deriving DecidableEq, Repr, Inhabited

/-- The output lines (10_state.md R48). -/
inductive Pin where
  | rst | dc | cs
deriving DecidableEq, Repr, Inhabited

/-- An event of the wire trace (20_memory.md R91). -/
inductive Event where
  /-- an output line driven to a level -/
  | pin (p : Pin) (level : Level)
  /-- bytes clocked out in order under the current CS and DC levels -/
  | bytes (b : List Byte)
  /-- a transfer of these bytes that reported failure; the panel received an unspecified prefix (20_memory.md R93) -/
  | bytesFailed (b : List Byte)
  /-- one read of BUSY with the level read -/
  | sample (level : Level)
  /-- a wait of at least `ms` milliseconds -/
  | delay (ms : Nat)
deriving DecidableEq, Repr, Inhabited

/-- An init step of INIT_TABLE or TURN_ON_SEQ (10_state.md R52). -/
inductive InitStep where
  /-- one command byte, then its data bytes -/
  | cmd (c : Byte) (d : List Byte)
  /-- a busy-wait with timeout `t` ms -/
  | wait (t : Nat)
  /-- a fixed delay of `t` ms -/
  | delayMs (t : Nat)
deriving DecidableEq, Repr, Inhabited

/-- The fields of STATUS (10_state.md R41). -/
structure StatusFields where
  drv       : DrvState
  allocDone : Bool
  busReady  : Bool
  sixColor  : Bool
  busyIn    : Level
  opActive  : Bool
  err       : ErrKind
deriving DecidableEq, Repr, Inhabited

/-- The source raster the host supplies (10_state.md R47): the listed samples, keyed by `sy*800 + sx`, and what every other pixel
is: `some c`, the colour `c`, or `none`, not said (a free value, log 7). Every raster of both geometries can be listed. -/
structure Raster where
  fill  : Option Rgb
  cells : List (Nat × Rgb)
deriving DecidableEq, Repr, Inhabited

end Sys2Proof.Machine
end

