-- ==== Sys2Proof/Config.lean ====
section
/-! DEFINITION. The configuration, fixed for one PFE (00_scope.md R9, 10_state.md R50 to R53), and the free values: what the
spec leaves to the panel, to the bus, to the allocator and to the host is an opaque constant without a body, so that nothing can
be proved of its value (log 4, log 5, log 7, log 9, log 12). -/

namespace Sys2Proof

open Sys2Proof.Machine

/-- A palette entry: its reference colour and its panel code (10_state.md R50). -/
structure PaletteEntry where
  rgb  : Rgb
  code : Nibble
deriving DecidableEq, Repr, Inhabited

/-- The six palette entries, by name (10_state.md R50; NPAL = 6 of 00_scope.md R7 holds by the type). -/
structure Palette where
  black  : PaletteEntry
  white  : PaletteEntry
  yellow : PaletteEntry
  red    : PaletteEntry
  blue   : PaletteEntry
  green  : PaletteEntry
deriving DecidableEq, Repr, Inhabited

/-- Four like things, numbered 0 to 3: a row of BAYER, or its four rows (10_state.md R51). -/
structure Quad (α : Type) where
  q0 : α
  q1 : α
  q2 : α
  q3 : α
deriving DecidableEq, Repr, Inhabited

/-- The open parameters of 00_scope.md R9. PALETTE_RGB, PALETTE_CODE and every byte are in range by their types; the ranges of
BAYER and of the timeouts and the distinctness of the reference colours are the check `configWf` of Machine/Params.lean. -/
structure Config where
  /-- PALETTE_RGB and PALETTE_CODE -/
  palette      : Palette
  /-- BAYER[r][c]: row `r`, column `c` -/
  bayer        : Quad (Quad Int)
  /-- INIT_TABLE -/
  initTable    : List InitStep
  /-- TURN_ON_SEQ -/
  turnOnSeq    : List InitStep
  /-- DATA_START_CMD -/
  dataStartCmd : Byte
  /-- DC_CMD_LEVEL: the level of DC that means command -/
  dcCmdLevel   : Level
  /-- SPI_HZ (20_memory.md R92); no rule reads it (I18) -/
  spiHz        : Nat
  /-- the SPI mode (20_memory.md R92), below the wire trace's abstraction (D16) -/
  spiMode      : BitVec 2
  /-- a byte leaves most significant bit first (20_memory.md R92) -/
  spiMsbFirst  : Bool
deriving DecidableEq, Repr, Inhabited

/-- The level of BUSY at the engine's `n`-th sample, where the input list does not say (I3). FREE VALUE. -/
opaque Config.busyLevel : Nat → Level

/-- The level of BUSY at the host's `n`-th read of STATUS, where the input list does not say (10_state.md R49, I3, log 16). FREE VALUE. -/
opaque Config.busyInLevel : Nat → Level

/-- Whether the `n`-th SPI transfer succeeds, where the input list does not say (I4). FREE VALUE. -/
opaque Config.xferOk : Nat → Bool

/-- Whether the `n`-th allocation succeeds, where the input list does not say (I4). FREE VALUE. -/
opaque Config.allocOk : Nat → Bool

/-- Whether the `n`-th bus configuration succeeds, where the input list does not say (I4). FREE VALUE. -/
opaque Config.busConfigOk : Nat → Bool

/-- What FB byte `a` holds right after allocation (10_state.md R36, I1). FREE VALUE. -/
opaque Config.fbFresh : Nat → Byte

/-- What TB byte `a` holds right after allocation (10_state.md R36, I1). FREE VALUE. -/
opaque Config.tbFresh : Nat → Byte

/-- The sample of the source raster at key `k` where the raster does not say it (10_state.md R47, log 7). FREE VALUE. -/
opaque Config.srcSample : Nat → Rgb

/-- How many of the values DRV_STATE takes in an operation pass by before the `n`-th register read during an operation, counted from the
value the last STATUS read of that operation found (20_memory.md R87, R89, log 9). FREE VALUE. -/
opaque Config.midAdvance : Nat → Nat

/-- How many bytes the panel received of the failed transfer that is event number `n` of the wire trace; more than the transfer has
means all of them (20_memory.md R93, I2, log 12). FREE VALUE. -/
opaque Config.receivedBytes : Nat → Nat

end Sys2Proof
end

