-- ==== Sys2Proof/Machine/Memory.lean ====
section
/-! DEFINITION. The pixel buffers as memory: a list of (address, byte) pairs with strictly rising addresses below 192000
(20_memory.md R80). An address that is not listed has not been written since allocation and holds no byte of the model's choosing;
reading it gives the free value of 10_state.md R36, which the caller supplies as `fresh` (log 5, log 6). An image is a buffer's
192000 bytes in ascending address order. Also here: the nibble view (41_framebuffer.md R200). -/

namespace Sys2Proof.Machine

/-- A pixel buffer (FB or TB). -/
abbrev Memory := List Host.Cell

/-- A whole buffer's bytes in ascending address order. -/
abbrev Image := List Byte

/-- Every address of `m` is at least `a`, the addresses rise strictly, and all are below 192000. -/
def Memory.wfFrom (a : Nat) : Memory → Bool
  | [] => true
  | (b, _) :: rest => decide (a ≤ b) && decide (b < 192000) && Memory.wfFrom (b + 1) rest

/-- The canonical form. No entry can equal what an unlisted address reads as, for that is no byte at all. -/
def Memory.wf (m : Memory) : Bool := Memory.wfFrom 0 m

/-- The byte listed at an address, if any. -/
def Memory.lookup (m : Memory) (a : Nat) : Option Byte :=
  match m with
  | [] => none
  | (b, v) :: rest => if a = b then some v else Memory.lookup rest a

/-- Read byte `a`: what was last written there, else the free value `fresh a` (10_state.md R36). -/
def Memory.read (fresh : Nat → Byte) (m : Memory) (a : Nat) : Byte :=
  (Memory.lookup m a).getD (fresh a)

/-- Write byte `v` at address `a`, keeping the canonical form (00_scope.md R13). -/
def Memory.write (m : Memory) (a : Nat) (v : Byte) : Memory :=
  match m with
  | [] => [(a, v)]
  | (b, w) :: rest =>
    if a < b then (a, v) :: (b, w) :: rest
    else if a = b then (a, v) :: rest
    else (b, w) :: Memory.write rest a v

/-- The `n` bytes at addresses `a`, `a + 1`, …, of a buffer in canonical form with no address below `a`, in one pass. -/
def Memory.readFrom (fresh : Nat → Byte) : Nat → Nat → Memory → List Byte
  | 0, _, _ => []
  | n + 1, a, [] => fresh a :: Memory.readFrom fresh n (a + 1) []
  | n + 1, a, (b, v) :: rest =>
    if a = b then v :: Memory.readFrom fresh n (a + 1) rest
    else fresh a :: Memory.readFrom fresh n (a + 1) ((b, v) :: rest)

/-- All 192000 bytes of a buffer in ascending address order. -/
def Memory.image (fresh : Nat → Byte) (m : Memory) : Image := Memory.readFrom fresh 192000 0 m

/-- The cells holding `bytes` from address `a` on. -/
def Memory.cellsFrom (a : Nat) : List Byte → Memory
  | [] => []
  | v :: rest => (a, v) :: Memory.cellsFrom (a + 1) rest

/-- The buffer every byte of which has been written, holding `img`. -/
def Memory.ofImage (img : Image) : Memory := Memory.cellsFrom 0 img

/-- The image every byte of which is `v` (41_framebuffer.md R201). -/
def fillImage (v : Byte) : Image := List.replicate 192000 v

/-! ## Nibbles -/

/-- `{hi, lo}`: the byte of two nibbles (20_memory.md R82). -/
def packNibbles (hi lo : Nibble) : Byte := hi ++ lo

/-- `byte[7:4]`: the pixel of even x (20_memory.md R82). -/
def hiNibble (b : Byte) : Nibble := b.extractLsb' 4 4

/-- `byte[3:0]`: the pixel of odd x (20_memory.md R82). -/
def loNibble (b : Byte) : Nibble := b.extractLsb' 0 4

/-- The byte with its two nibbles exchanged (41_framebuffer.md R206). -/
def swapNibbles (b : Byte) : Byte := packNibbles (loNibble b) (hiNibble b)

/-- `Addr(x, y) = (y*800 + x) >> 1` (41_framebuffer.md R200). -/
def pixelAddr (x y : Nat) : Nat := (y * 800 + x) / 2

/-- The nibble of byte `b` that the pixel of column `x` occupies (41_framebuffer.md R200). -/
def nibbleOf (x : Nat) (b : Byte) : Nibble := if x % 2 = 0 then hiNibble b else loNibble b

/-- Byte `b` with the nibble of column `x` replaced by `c` (41_framebuffer.md R200). -/
def withNibble (x : Nat) (c : Nibble) (b : Byte) : Byte :=
  if x % 2 = 0 then packNibbles c (loNibble b) else packNibbles (hiNibble b) c

/-- `GetNib(buf, x, y)` (41_framebuffer.md R200). -/
def Memory.getNib (fresh : Nat → Byte) (m : Memory) (x y : Nat) : Nibble :=
  nibbleOf x (Memory.read fresh m (pixelAddr x y))

/-- `SetNib(buf, x, y, c)`: a read-modify-write of one byte (41_framebuffer.md R200). -/
def Memory.setNib (fresh : Nat → Byte) (m : Memory) (x y : Nat) (c : Nibble) : Memory :=
  Memory.write m (pixelAddr x y) (withNibble x c (Memory.read fresh m (pixelAddr x y)))

/-- `Rot180`: the byte reversal with each byte's nibbles exchanged (41_framebuffer.md R206, byte form of R204). -/
def rot180Image (img : Image) : Image := (img.map swapNibbles).reverse

/-- The transfer buffer's image for a rotation of 0 or 180 degrees of the framebuffer's image (41_framebuffer.md R204). -/
def rotateImage (rot180 : Bool) (img : Image) : Image := if rot180 then rot180Image img else img

end Sys2Proof.Machine
end

