-- ==== Sys2Proof/Machine/Params.lean ====
section
/-! DEFINITION. Reading the configuration: the palette in declaration order, the threshold matrix, the well-formedness check of
00_scope.md R10, and REFCFG, the reference configuration of 92_eei_decisions.md D45. -/

namespace Sys2Proof.Machine

/-- The palette entries in declaration order, Black first (00_scope.md R7). -/
def Ink.all : List Ink := [.black, .white, .yellow, .red, .blue, .green]

/-- The palette index, 0 to 5 in declaration order (00_scope.md R7). -/
def Ink.index : Ink → BitVec 3
  | .black => 0#3
  | .white => 1#3
  | .yellow => 2#3
  | .red => 3#3
  | .blue => 4#3
  | .green => 5#3

/-- The table entry of an ink (10_state.md R50). -/
def paletteEntry (p : Palette) : Ink → PaletteEntry
  | .black => p.black
  | .white => p.white
  | .yellow => p.yellow
  | .red => p.red
  | .blue => p.blue
  | .green => p.green

/-- PALETTE_RGB[i] (10_state.md R50). -/
def paletteRgb (cfg : Config) (i : Ink) : Rgb := (paletteEntry cfg.palette i).rgb

/-- PALETTE_CODE[i] (10_state.md R50). -/
def paletteCode (cfg : Config) (i : Ink) : Nibble := (paletteEntry cfg.palette i).code

/-- The entry numbered `n & 3` of a row of four (10_state.md R51). -/
def quadAt {α : Type} (q : Quad α) (n : Nat) : α :=
  match n % 4 with
  | 0 => q.q0
  | 1 => q.q1
  | 2 => q.q2
  | _ => q.q3

/-- The entries of a row of four, in order. -/
def quadList {α : Type} (q : Quad α) : List α := [q.q0, q.q1, q.q2, q.q3]

/-- BAYER[y & 3][x & 3] (10_state.md R51). -/
def bayerAt (cfg : Config) (x y : Nat) : Int := quadAt (quadAt cfg.bayer y) x

/-- A timeout is in `[0, 65535]` ms (00_scope.md R10). -/
def InitStep.wf : InitStep → Bool
  | .cmd _ _ => true
  | .wait t => decide (t ≤ 65535)
  | .delayMs _ => true

/-- A well-formed configuration: the six reference colours pairwise distinct, every threshold in `[0, 15]`, every timeout in
`[0, 65535]` (00_scope.md R10; the codes and bytes are in range by their types). -/
def configWf (cfg : Config) : Bool :=
  decide ((Ink.all.map (paletteRgb cfg)).Nodup)
    && ((quadList cfg.bayer).flatMap quadList).all (fun v => decide (0 ≤ v) && decide (v ≤ 15))
    && cfg.initTable.all InitStep.wf
    && cfg.turnOnSeq.all InitStep.wf

/-- The INIT_TABLE of REFCFG (93_implementation_defined.md I12). -/
def refInitTable : List InitStep :=
  [.wait 30000,
   .delayMs 30,
   .cmd 0xAA [0x49, 0x55, 0x20, 0x08, 0x09, 0x18],
   .cmd 0x01 [0x3F],
   .cmd 0x00 [0x5F, 0x69],
   .cmd 0x03 [0x00, 0x54, 0x00, 0x44],
   .cmd 0x05 [0x40, 0x1F, 0x1F, 0x2C],
   .cmd 0x06 [0x6F, 0x1F, 0x17, 0x49],
   .cmd 0x08 [0x6F, 0x1F, 0x1F, 0x22],
   .cmd 0x30 [0x03],
   .cmd 0x50 [0x3F],
   .cmd 0x60 [0x02, 0x00],
   .cmd 0x61 [0x03, 0x20, 0x01, 0xE0],
   .cmd 0x84 [0x01],
   .cmd 0xE3 [0x2F],
   .cmd 0x04 [],
   .wait 30000]

/-- The TURN_ON_SEQ of REFCFG (93_implementation_defined.md I13). -/
def refTurnOnSeq : List InitStep :=
  [.cmd 0x04 [],
   .wait 30000,
   .cmd 0x06 [0x6F, 0x1F, 0x17, 0x49],
   .cmd 0x12 [0x00],
   .wait 30000,
   .cmd 0x02 [0x00],
   .wait 30000]

/-- REFCFG, the reference configuration of 92_eei_decisions.md D45. DESIGN CHOICE (log 1): it stands in `State.reset` because the
spec gives the parameters no values; no statement about every state rests on it. Unsafe where a claim is about `State.reset`. -/
def refConfig : Config where
  palette :=
    { black  := ⟨⟨0, 0, 0⟩, 0x0⟩
      white  := ⟨⟨255, 255, 255⟩, 0x1⟩
      yellow := ⟨⟨255, 255, 0⟩, 0x2⟩
      red    := ⟨⟨255, 0, 0⟩, 0x3⟩
      blue   := ⟨⟨0, 0, 255⟩, 0x5⟩
      green  := ⟨⟨0, 255, 0⟩, 0x6⟩ }
  bayer := ⟨⟨0, 8, 2, 10⟩, ⟨12, 4, 14, 6⟩, ⟨3, 11, 1, 9⟩, ⟨15, 7, 13, 5⟩⟩
  initTable := refInitTable
  turnOnSeq := refTurnOnSeq
  dataStartCmd := 0x10
  dcCmdLevel := false
  spiHz := 0
  spiMode := 0
  spiMsbFirst := true

end Sys2Proof.Machine
end

