-- ==== Sys2Proof/Machine/State.lean ====
section
/-! DEFINITION. The state of the PFE, everything the spec gives the machine (10_state.md), as plain data; the reasons a step can
stop; and the machine after construction (10_state.md R57). -/

namespace Sys2Proof.Machine

/-- An action of the host at the PFE's interface (10_state.md R37, R47). -/
inductive HostAction where
  /-- a write of a 32-bit word to a register offset -/
  | write (offset : Word) (value : Word)
  /-- a read of the 32-bit word at a register offset -/
  | read (offset : Word)
  /-- the source raster is made to be this one -/
  | loadSource (r : Raster)
deriving DecidableEq, Repr

/-- A pending host action. `early` says that the host does not wait for the operation in progress to end (OP_ACTIVE = 0) before
it acts (70_reset_and_hazards.md R363, R367). -/
structure HostEvent where
  early  : Bool
  action : HostAction
deriving DecidableEq, Repr

/-- An input the spec calls a draw (10_state.md R49; 20_memory.md R93; 42_panel_protocol.md R232, R233): the values that are said
in advance, in order, and how many values have been taken. The value number `n` is `script[n]` where the list reaches so far,
and a free value otherwise (log 4). -/
structure Draws where
  script : List Bool
  taken  : Nat
deriving DecidableEq, Repr

/-- The state of the PFE. Fields the spec names carry its name; the model's own fields say so. -/
structure State where
  /-- the configuration constants (10_state.md R50 to R53) -/
  cfg         : Config
  /-- DRV_STATE (10_state.md R31) -/
  drv         : DrvState
  /-- ALLOC_DONE (10_state.md R32) -/
  allocDone   : Bool
  /-- BUS_READY (10_state.md R33) -/
  busReady    : Bool
  /-- SIX_COLOR (10_state.md R45) -/
  sixColor    : Bool
  /-- OP_ACTIVE (10_state.md R38) -/
  opActive    : Bool
  /-- ERR (10_state.md R41) -/
  err         : ErrKind
  /-- CMD: the word last written to it (10_state.md R38) -/
  cmd         : Word
  /-- RESULT (10_state.md R40) -/
  result      : Word
  /-- ERRINFO (10_state.md R43) -/
  errinfo     : Word
  /-- EFFOPT (10_state.md R44) -/
  effopt      : Word
  /-- ARG0 (10_state.md R39) -/
  arg0        : Word
  /-- ARG1 (10_state.md R39) -/
  arg1        : Word
  /-- ARG2 (10_state.md R39) -/
  arg2        : Word
  /-- ARG3 (10_state.md R39) -/
  arg3        : Word
  /-- ARG4 (10_state.md R39) -/
  arg4        : Word
  /-- FB, which exists only while ALLOC_DONE = 1 (10_state.md R34); nothing is listed while it is absent -/
  fb          : Memory
  /-- TB, which exists only while ALLOC_DONE = 1 (10_state.md R35); nothing is listed while it is absent -/
  tb          : Memory
  /-- PIN_RST, `none` while the line is not driven (10_state.md R48, R57) -/
  pinRst      : Option Level
  /-- PIN_DC, `none` while the line is not driven (10_state.md R48, R57) -/
  pinDc       : Option Level
  /-- PIN_CS, `none` while the line is not driven (10_state.md R48, R57) -/
  pinCs       : Option Level
  /-- the wire trace, oldest event first (20_memory.md R91) -/
  trace       : List Event
  /-- the source raster behind SrcRead (10_state.md R47) -/
  source      : Raster
  /-- the mark HOST_OVERLAP (10_state.md R59) -/
  hostOverlap : Bool
  /-- the mark REFUSED (10_state.md R59) -/
  refusedMark : Bool
  /-- the model's own: the host's pending actions, oldest first (log 8) -/
  host        : List HostEvent
  /-- the model's own: the word the host's last read returned (log 3) -/
  hostData    : Word
  /-- the model's own: the levels of BUSY the engine's samples find (10_state.md R49, log 4) -/
  busy        : Draws
  /-- the model's own: the levels of BUSY the host's reads of STATUS find in BUSY_IN (10_state.md R41, R49, log 4, log 16) -/
  busyIn      : Draws
  /-- the model's own: the outcomes of the SPI transfers, `true` for ok (20_memory.md R93, log 4) -/
  xfer        : Draws
  /-- the model's own: the outcomes of the allocations, `true` for ok (42_panel_protocol.md R232, log 4) -/
  alloc       : Draws
  /-- the model's own: the outcomes of the bus configurations, `true` for ok (42_panel_protocol.md R233, log 4) -/
  busCfg      : Draws
  /-- the model's own: how many register reads the host made while an operation ran (log 9) -/
  midReads    : Nat
  /-- the model's own: how many writes of DRV_STATE had happened, of all since construction, at the point of its operation that the last
  STATUS read during an operation found (log 9) -/
  drvSeen     : Nat
  /-- the model's own: every value written to DRV_STATE, oldest first (log 14) -/
  drvLog      : List DrvState
deriving DecidableEq, Repr

/-- Why the machine stops with a fault. -/
inductive Fault where
  /-- The host wrote CMD while OP_ACTIVE = 1 (10_state.md R38): raised by `step` on a state that carries the mark HOST_OVERLAP
  (R59). Safe: the spec calls the behaviour outside the source's discipline and gives it no effect (log 11). -/
  | hostOverlap
deriving DecidableEq, Repr

/-- Why the model has no meaning for what was asked. -/
inductive Refusal where
  /-- An instruction whose arm of `exec` has no meaning yet; raised by `exec` only. Safe. No arm is left with it. -/
  | notModelled (mnemonic : String)
  /-- The configuration breaks 00_scope.md R10, or the mark REFUSED is set (10_state.md R59): raised by `step`. Safe. -/
  | illFormedConfig
  /-- The host changed the source raster during a RENDER or AUTO_DETECT (93_implementation_defined.md I8, 20_memory.md R95):
  raised by `step` on that host action. Safe in the model; I8 says when a real host makes it unsafe (log 10). -/
  | sourceChangedDuringOp
  /-- The host wrote an ARG register during an operation, outside the discipline of 70_reset_and_hazards.md R363: raised by
  `step` on that host action. Safe (log 10). -/
  | argWrittenDuringOp
deriving DecidableEq, Repr

/-- A draw input of which nothing is said in advance and nothing has been taken. -/
def Draws.fresh : Draws := ⟨[], 0⟩

/-- The machine after construction with configuration `cfg`: the table of 10_state.md R57, with the mark REFUSED set when the
configuration breaks 00_scope.md R10. -/
def State.resetWith (cfg : Config) : State where
  cfg := cfg
  drv := .uninitialized
  allocDone := false
  busReady := false
  sixColor := false
  opActive := false
  err := .ok
  cmd := 0
  result := 0
  errinfo := 0
  effopt := 0
  arg0 := 0
  arg1 := 0
  arg2 := 0
  arg3 := 0
  arg4 := 0
  fb := []
  tb := []
  pinRst := none
  pinDc := none
  pinCs := none
  trace := []
  source := ⟨none, []⟩
  hostOverlap := false
  refusedMark := !configWf cfg
  host := []
  hostData := 0
  busy := Draws.fresh
  busyIn := Draws.fresh
  xfer := Draws.fresh
  alloc := Draws.fresh
  busCfg := Draws.fresh
  midReads := 0
  drvSeen := 0
  drvLog := []

/-- The machine after construction (10_state.md R57, 70_reset_and_hazards.md R360), with REFCFG as its configuration (log 1). -/
def State.reset : State := State.resetWith refConfig

end Sys2Proof.Machine
end

