-- ==== Sys2Proof/Machine/Flags.lean ====
section
/-! DEFINITION. The words the engine writes: the layouts of STATUS, ERRINFO, EFFOPT (10_state.md R41, R43, R44) and of RESULT for
each operation that produces a value (30_encoding.md R118), and the numbers of their fields. -/

namespace Sys2Proof.Machine

/-- The encoding of DRV_STATE (10_state.md R31). -/
def DrvState.code : DrvState → BitVec 3
  | .uninitialized => 0#3
  | .busReady => 1#3
  | .panelConfigured => 2#3
  | .flushing => 3#3
  | .idle => 4#3
  | .closed => 5#3

/-- The error code of STATUS.ERR (60_exceptions.md R320). -/
def ErrKind.code : ErrKind → BitVec 4
  | .ok => 0#4
  | .formatError => 1#4
  | .busError => 2#4
  | .timeoutError => 3#4
  | .allocationError => 4#4
  | .stateError => 5#4
  | .illegalCommand => 6#4

/-- The encoding of the colour-process mode (10_state.md R44, 40_pixel_map.md R165). -/
def ColorMode.code : ColorMode → BitVec 2
  | .auto => 0#2
  | .forceConvert => 1#2
  | .assumeSixColor => 2#2

/-- The PATH field of MAP_PIXEL's result (30_encoding.md R118). -/
def MapPath.code : MapPath → BitVec 2
  | .nearest => 0#2
  | .ditherNearest => 1#2
  | .exactMatch => 2#2
  | .missNearest => 3#2

/-- STATUS: DRV_STATE [2:0], ALLOC_DONE [3], BUS_READY [4], SIX_COLOR [5], BUSY_IN [6], OP_ACTIVE [7], ERR [11:8], the rest 0
(10_state.md R41). -/
def statusWord (f : StatusFields) : Word :=
  0#20 ++ ErrKind.code f.err ++ BitVec.ofBool f.opActive ++ BitVec.ofBool f.busyIn ++ BitVec.ofBool f.sixColor
    ++ BitVec.ofBool f.busReady ++ BitVec.ofBool f.allocDone ++ DrvState.code f.drv

/-- The STATUS fields of a state, with the level BUSY shows (10_state.md R41). -/
def statusFields (s : State) (busyIn : Level) : StatusFields :=
  ⟨s.drv, s.allocDone, s.busReady, s.sixColor, busyIn, s.opActive, s.err⟩

/-- ERRINFO: `{zeros[31:24], step[15:0], stage[7:0]}` (10_state.md R43, 60_exceptions.md R321). -/
def errinfoWord (stage : Byte) (step : Nat) : Word := 0#8 ++ BitVec.ofNat 16 step ++ stage

/-- EFFOPT and the result of RESOLVE_OPTS: `{zeros[31:15], tol[6:0], zeros[7:4], dith[0], mode[1:0], (rot == 180)}`
(10_state.md R44, 40_pixel_map.md R166). -/
def effoptWord (o : Opts) : Word :=
  0#17 ++ BitVec.ofNat 7 o.tol ++ 0#4 ++ BitVec.ofBool o.ordered ++ ColorMode.code o.mode ++ BitVec.ofBool o.rot180

/-- FB_GET's result: `[3:0]` the pixel nibble (30_encoding.md R118). -/
def nibbleResult (c : Nibble) : Word := 0#28 ++ c

/-- QUANTIZE's result: `{zeros[31:11], i[2:0], zeros[7:4], code[3:0]}` (40_pixel_map.md R154). -/
def inkResult (cfg : Config) (i : Ink) : Word := 0#21 ++ Ink.index i ++ 0#4 ++ paletteCode cfg i

/-- MATCH's result: 0 for no match, else `{1, zeros[30:11], m[2:0], zeros[7:4], code[3:0]}` (40_pixel_map.md R156). -/
def matchResult (cfg : Config) : Option Ink → Word
  | none => 0#32
  | some i => 1#1 ++ 0#20 ++ Ink.index i ++ 0#4 ++ paletteCode cfg i

/-- DITHER's result: `R' = [23:16]`, `G' = [15:8]`, `B' = [7:0]` (30_encoding.md R118, 20_memory.md R84). -/
def rgbResult (c : Rgb) : Word := 0#8 ++ c.r ++ c.g ++ c.b

/-- MAP_PIXEL's result: `{zeros[31:18], p[1:0], zeros[15:11], i[2:0], zeros[7:4], code[3:0]}` (40_pixel_map.md R164). -/
def mapResult (cfg : Config) (i : Ink) (p : MapPath) : Word :=
  0#14 ++ MapPath.code p ++ 0#5 ++ Ink.index i ++ 0#4 ++ paletteCode cfg i

/-- ORIENT's result: `{zeros[31:20], sy[9:0], sx[9:0]}` (40_pixel_map.md R151). -/
def orientResult (sx sy : Nat) : Word := 0#12 ++ BitVec.ofNat 10 sy ++ BitVec.ofNat 10 sx

/-- AUTO_DETECT's result: `zext_32(s)` (40_pixel_map.md R159). -/
def flagResult (b : Bool) : Word := 0#31 ++ BitVec.ofBool b

end Sys2Proof.Machine
end

