-- ==== Sys2Proof/Machine/Operands.lean ====
section
/-! DEFINITION. The operands of the host operations: the coordinate range of 30_encoding.md R121, the layouts of the ARG registers
(R117) with their reserved bits (R120 step 3), and the clamping of raw signed options (00_scope.md R12). -/

namespace Sys2Proof.Machine

/-- `clamp(v, lo, hi) = min(max(v, lo), hi)` (00_scope.md R12). -/
def clampInt (v lo hi : Int) : Int := min (max v lo) hi

/-- The destination coordinates are on the panel: `X <= 799` and `Y <= 479` (30_encoding.md R121). -/
def onPanel (x y : Nat) : Bool := decide (x ≤ 799) && decide (y ≤ 479)

/-! ## The source descriptor (10_state.md R47) -/

/-- `SRC_VALID = ARG0[0]`. -/
def srcValid (arg : Word) : Bool := arg.getLsbD 0

/-- `SRC_TRANSPOSED = ARG0[1]`. -/
def srcTransposed (arg : Word) : Bool := arg.getLsbD 1

/-- `ARG0[31:2]` must be 0 (30_encoding.md R117). -/
def srcReservedOk (arg : Word) : Bool := arg.extractLsb' 2 30 == 0#30

/-! ## The coordinate word of DITHER and MAP_PIXEL (30_encoding.md R117) -/

/-- `X = ARG0[9:0]`. -/
def coordX (arg : Word) : Nat := (arg.extractLsb' 0 10).toNat

/-- `Y = ARG0[18:10]`. -/
def coordY (arg : Word) : Nat := (arg.extractLsb' 10 9).toNat

/-- `ARG0[31:19]` must be 0. -/
def coordReservedOk (arg : Word) : Bool := arg.extractLsb' 19 13 == 0#13

/-- The coordinate word names a pixel of the panel: reserved bits 0 and the coordinates in range (30_encoding.md R120). -/
def coordOk (arg : Word) : Bool := coordReservedOk arg && onPanel (coordX arg) (coordY arg)

/-! ## The mode word of MAP_PIXEL (30_encoding.md R117) -/

/-- `SIX = ARG1[0]`. -/
def modeSix (arg : Word) : Bool := arg.getLsbD 0

/-- `ORDERED = ARG1[1]`. -/
def modeOrdered (arg : Word) : Bool := arg.getLsbD 1

/-- `TOL = ARG1[14:8]`, acting as at most 64 (40_pixel_map.md R164). -/
def modeTol (arg : Word) : Nat := min (arg.extractLsb' 8 7).toNat 64

/-- Every bit of ARG1 outside {0, 1, 8..14} must be 0 (60_exceptions.md R341). -/
def modeReservedOk (arg : Word) : Bool := arg.extractLsb' 2 6 == 0#6 && arg.extractLsb' 15 17 == 0#17

/-! ## Raw options (30_encoding.md R117): `sext_32` signed integers -/

/-- A raw tolerance, clamped to `[0, 64]` (40_pixel_map.md R156, R165). -/
def clampTol (raw : Int) : Nat := (clampInt raw 0 64).toNat

/-- A raw rotation: 0 stays 0 (`false`), any other value acts as 180 (`true`) (40_pixel_map.md R165, 41_framebuffer.md R205). -/
def rawRot180 (raw : Int) : Bool := !decide (raw = 0)

/-- A raw colour-process mode, clamped to 0..2 (40_pixel_map.md R165). -/
def rawMode (raw : Int) : ColorMode :=
  match (clampInt raw 0 2).toNat with
  | 0 => .auto
  | 1 => .forceConvert
  | _ => .assumeSixColor

/-- A raw dithering mode, clamped to 0..1; 1 is Ordered (40_pixel_map.md R165). -/
def rawOrdered (raw : Int) : Bool := decide (clampInt raw 0 1 = 1)

/-- `Resolve(raw_rot, raw_mode, raw_dith, raw_tol)` (40_pixel_map.md R165). -/
def resolveRaw (rot mode dith tol : Int) : Opts :=
  ⟨rawRot180 rot, rawMode mode, rawOrdered dith, clampTol tol⟩

/-- The options of RENDER and RESOLVE_OPTS: `Resolve` of ARG1..ARG4 (30_encoding.md R117). -/
def resolvedOpts (s : State) : Opts := resolveRaw s.arg1.toInt s.arg2.toInt s.arg3.toInt s.arg4.toInt

end Sys2Proof.Machine
end

