-- ==== Sys2Proof/Machine/Ops.lean ====
section
/-! DEFINITION. The shared operations: draws, the wire and the pins (00_scope.md R14), the pixel buffers of a state, the driver state,
and how an operation ends: it completes, or it raises exactly one error, which is the PFE's whole exception machinery
(60_exceptions.md R321, R322). There is no trap entry and no return from one (R326, R327). -/

namespace Sys2Proof.Machine

/-! ## Draws -/

/-- The value number `taken + k` of a draw input, where `free` supplies what the script does not say (log 4). -/
def Draws.ahead (free : Nat → Bool) (d : Draws) (k : Nat) : Bool :=
  (d.script[d.taken + k]?).getD (free (d.taken + k))

/-- The next value of a draw input. -/
def Draws.peek (free : Nat → Bool) (d : Draws) : Bool := Draws.ahead free d 0

/-- One more value taken. -/
def Draws.advance (d : Draws) : Draws := { d with taken := d.taken + 1 }

/-- The level the engine's next sample of BUSY finds (10_state.md R49). -/
def busyNow (s : State) : Level := Draws.peek Config.busyLevel s.busy

/-- A sample of BUSY takes one value. -/
def State.tookBusy (s : State) : State := { s with busy := Draws.advance s.busy }

/-- The level the host's next read of STATUS finds in BUSY_IN (10_state.md R41, R49, log 16). -/
def busyInNow (s : State) : Level := Draws.peek Config.busyInLevel s.busyIn

/-- A read of STATUS takes one value. -/
def State.tookBusyIn (s : State) : State := { s with busyIn := Draws.advance s.busyIn }

/-! ## State updates that carry a rule -/

/-- Append an event to the wire trace (20_memory.md R91). -/
def State.emit (e : Event) (s : State) : State := { s with trace := s.trace ++ [e] }

/-- `SetPin(pin, level)`: drive the line and record it (00_scope.md R14, 10_state.md R48). -/
def State.setPin (p : Pin) (v : Level) (s : State) : State :=
  State.emit (.pin p v)
    (match p with
     | .rst => { s with pinRst := some v }
     | .dc => { s with pinDc := some v }
     | .cs => { s with pinCs := some v })

/-- `Delay(ms)` (00_scope.md R14). -/
def State.delay (ms : Nat) (s : State) : State := State.emit (.delay ms) s

/-- Write DRV_STATE (10_state.md R31). -/
def State.setDrv (d : DrvState) (s : State) : State := { s with drv := d, drvLog := s.drvLog ++ [d] }

/-- Write RESULT (00_scope.md R13). -/
def State.setResult (w : Word) (s : State) : State := { s with result := w }

/-- Replace the whole of FB. -/
def State.setFb (m : Memory) (s : State) : State := { s with fb := m }

/-- Replace the whole of TB. -/
def State.setTb (m : Memory) (s : State) : State := { s with tb := m }

/-- The 192000 bytes of FB, `FBRead(0)` to `FBRead(191999)`. -/
def fbImage (s : State) : Image := Memory.image Config.fbFresh s.fb

/-- The 192000 bytes of TB, `TBRead(0)` to `TBRead(191999)`. -/
def tbImage (s : State) : Image := Memory.image Config.tbFresh s.tb

/-- `FBRead(i)` (00_scope.md R13). -/
def fbRead (s : State) (i : Nat) : Byte := Memory.read Config.fbFresh s.fb i

/-- `TBRead(i)` (00_scope.md R13). -/
def tbRead (s : State) (i : Nat) : Byte := Memory.read Config.tbFresh s.tb i

/-- `GetNib(FB, x, y)` (41_framebuffer.md R200). -/
def fbNib (s : State) (x y : Nat) : Nibble := Memory.getNib Config.fbFresh s.fb x y

/-- `GetNib(TB, x, y)` (41_framebuffer.md R200). -/
def tbNib (s : State) (x y : Nat) : Nibble := Memory.getNib Config.tbFresh s.tb x y

/-! ## How an operation ends -/

/-- An error with the stage and step it is raised at (60_exceptions.md R321, R324). -/
structure OpError where
  kind  : ErrKind
  stage : Byte
  step  : Nat
deriving DecidableEq, Repr

/-- The outcome of a part of an operation: done, or an error raised, each with the state so far (60_exceptions.md R321). -/
inductive Res where
  | done (s : State)
  | raised (e : OpError) (s : State)
deriving DecidableEq, Repr

/-- Go on with the next part; after an error no later part runs (60_exceptions.md R321 (1)). -/
def Res.andThen (r : Res) (f : State → Res) : Res :=
  match r with
  | .done s => f s
  | .raised e s => .raised e s

/-- Apply the driver-state rule of 60_exceptions.md R329 where an error is raised (R321 (2)). -/
def Res.onError (r : Res) (f : State → State) : Res :=
  match r with
  | .done s => .done s
  | .raised e s => .raised e (f s)

/-- RAISING AN ERROR: write `STATUS.ERR` and `ERRINFO`, leave RESULT, end the operation (60_exceptions.md R321 (3) to (5)). -/
def raiseError (e : OpError) (s : State) : State :=
  { s with err := e.kind, errinfo := errinfoWord e.stage e.step, opActive := false }

/-- Completing: ERR = 0 and the operation ends; ERRINFO stays (10_state.md R38, R41, R43; 60_exceptions.md R322). -/
def complete (s : State) : State := { s with err := .ok, opActive := false }

/-- The state an operation leaves (60_exceptions.md R322). -/
def Res.finish (r : Res) : State :=
  match r with
  | .done s => complete s
  | .raised e s => raiseError e s

/-- `raise IllegalCommand(0, 0)` (60_exceptions.md R341). -/
def illegalCommand (s : State) : Res := .raised ⟨.illegalCommand, 0x00, 0⟩ s

/-- `raise StateError(0, 0)` (60_exceptions.md R340). -/
def stateError (s : State) : Res := .raised ⟨.stateError, 0x00, 0⟩ s

/-- `raise FormatError(0, 0)` (60_exceptions.md R336). -/
def formatError (s : State) : Res := .raised ⟨.formatError, 0x00, 0⟩ s

/-- The operation's state precondition: StateError unless it holds (60_exceptions.md R340). -/
def requireState (ok : Bool) (s : State) (body : Res) : Res := if ok then body else stateError s

/-- A decode check that needs an operand's value: IllegalCommand unless it holds (30_encoding.md R120 steps 3 and 4). -/
def requireLegal (ok : Bool) (s : State) (body : Res) : Res := if ok then body else illegalCommand s

/-- The input check of RENDER and AUTO_DETECT: FormatError when SRC_VALID = 0 (60_exceptions.md R336). -/
def requireSource (ok : Bool) (s : State) (body : Res) : Res := if ok then body else formatError s

/-- The outcome of the operation `r`: always a next state, for an error is a result and not a stop (60_exceptions.md R326). -/
def outcome (r : Res) : Host.Outcome State Fault Refusal := .next (Res.finish r)

end Sys2Proof.Machine
end

