-- ==== Sys2Proof/Machine/Framebuffer.lean ====
section
/-! DEFINITION. The framebuffer operations (41_framebuffer.md): each needs ALLOC_DONE = 1. -/

namespace Sys2Proof.Machine

/-- Every FB byte becomes `{c, c}` (41_framebuffer.md R201). -/
def clearFb (c : Nibble) (s : State) : State :=
  State.setFb (Memory.ofImage (fillImage (packNibbles c c))) s

/-- `Rotate(rot)` from FB into TB (41_framebuffer.md R204, byte form of R206; log 13). -/
def rotateInto (rot180 : Bool) (s : State) : State :=
  State.setTb (Memory.ofImage (rotateImage rot180 (fbImage s))) s

/-- `SetNib(FB, x, y, c)` (41_framebuffer.md R200). -/
def setFbNib (x y : Nat) (c : Nibble) (s : State) : State :=
  State.setFb (Memory.setNib Config.fbFresh s.fb x y c) s

/-- FB_CLEAR (41_framebuffer.md R201). -/
def execFbClear (color : Nibble) (s : State) : Host.Outcome State Fault Refusal :=
  outcome (requireState s.allocDone s (.done (clearFb color s)))

/-- FB_GET (41_framebuffer.md R202). -/
def execFbGet (x : BitVec 10) (y : BitVec 9) (s : State) : Host.Outcome State Fault Refusal :=
  outcome (requireLegal (onPanel x.toNat y.toNat) s
    (requireState s.allocDone s (.done (State.setResult (nibbleResult (fbNib s x.toNat y.toNat)) s))))

/-- FB_SET (41_framebuffer.md R203). -/
def execFbSet (x : BitVec 10) (y : BitVec 9) (c : Nibble) (s : State) : Host.Outcome State Fault Refusal :=
  outcome (requireLegal (onPanel x.toNat y.toNat) s
    (requireState s.allocDone s (.done (setFbNib x.toNat y.toNat c s))))

/-- ROTATE (41_framebuffer.md R205): the raw rotation is `sext_32(ARG0)`, any value but 0 acts as 180. -/
def execRotate (s : State) : Host.Outcome State Fault Refusal :=
  outcome (requireState s.allocDone s (.done (rotateInto (rawRot180 s.arg0.toInt) s)))

end Sys2Proof.Machine
end

