-- ==== Sys2Proof/Machine/Panel.lean ====
section
/-! DEFINITION. The SPI panel driver's protocol (42_panel_protocol.md R231 to R246): reset waveform, busy-poll, command and data
bytes, buffer write, init sequencer, turn-on sequence, and the host operations that expose them. Each needs BUS_READY = 1. -/

namespace Sys2Proof.Machine

/-- The level of DC for a command byte: DC_CMD_LEVEL (42_panel_protocol.md R231). -/
def dcCommand (s : State) : Level := s.cfg.dcCmdLevel

/-- The level of DC for a data byte: `1 - DC_CMD_LEVEL` (42_panel_protocol.md R231). -/
def dcData (s : State) : Level := !s.cfg.dcCmdLevel

/-- Whether the next SPI transfer succeeds (20_memory.md R93). -/
def xferNow (s : State) : Bool := Draws.peek Config.xferOk s.xfer

/-- The state after `SpiXfer(bs)` whose outcome is `ok` (20_memory.md R93). -/
def afterXfer (ok : Bool) (bs : List Byte) (s : State) : State :=
  State.emit (if ok then .bytes bs else .bytesFailed bs) { s with xfer := Draws.advance s.xfer }

/-- `Reset()`: RST high, 50 ms, low, 20 ms, high, 50 ms (42_panel_protocol.md R234). -/
def resetPanel (s : State) : State :=
  State.delay 50 (State.setPin .rst true (State.delay 20 (State.setPin .rst false (State.delay 50 (State.setPin .rst true s)))))

/-- `SampleBusy()`: the state after a sample that read `v` (00_scope.md R14). -/
def afterSample (v : Level) (s : State) : State := State.emit (.sample v) (State.tookBusy s)

/-- The polling loop with `left` more samples allowed after this one (42_panel_protocol.md R235). -/
def pollBusy (stage : Byte) (step : Nat) : Nat → State → Res
  | 0, s => if busyNow s then .done (afterSample (busyNow s) s)
    else .raised ⟨.timeoutError, stage, step⟩ (afterSample (busyNow s) s)
  | left + 1, s => if busyNow s then .done (afterSample (busyNow s) s)
    else pollBusy stage step left (State.delay 10 (afterSample (busyNow s) s))

/-- `WaitBusy(stage, step, T)`: at most `floor(T/10) + 1` samples (42_panel_protocol.md R235). -/
def waitBusy (stage : Byte) (step : Nat) (timeout : Nat) (s : State) : Res := pollBusy stage step (timeout / 10) s

/-- A frame of one byte at a DC level; CS is released before an error is raised (42_panel_protocol.md R237, R239). -/
def sendByte (dc : Level) (b : Byte) (stage : Byte) (step : Nat) (s : State) : Res :=
  let s1 := State.setPin .cs false (State.setPin .dc dc s)
  let s2 := State.setPin .cs true (afterXfer (xferNow s1) [b] s1)
  if xferNow s1 then .done s2 else .raised ⟨.busError, stage, step⟩ s2

/-- `WriteCommand(c, stage, step)` (42_panel_protocol.md R237). -/
def writeCommand (c : Byte) (stage : Byte) (step : Nat) (s : State) : Res := sendByte (dcCommand s) c stage step s

/-- `WriteData(d, stage, step)` (42_panel_protocol.md R239). -/
def writeDataByte (d : Byte) (stage : Byte) (step : Nat) (s : State) : Res := sendByte (dcData s) d stage step s

/-- Chunk `k` of an image: bytes 5000k up to the next 5000 or the end (42_panel_protocol.md R241). -/
def chunkOf (img : Image) (k : Nat) : List Byte := (img.drop (5000 * k)).take 5000

/-- The 39 chunks of an image in order (42_panel_protocol.md R241). -/
def chunksOf (img : Image) : List (List Byte) := (List.range' 0 39).map (chunkOf img)

/-- Send chunks number `k`, `k + 1`, … under CS; release CS at the end or before the error (42_panel_protocol.md R241). -/
def sendChunks (stage : Byte) : List (List Byte) → Nat → State → Res
  | [], _, s => .done (State.setPin .cs true s)
  | c :: rest, k, s =>
    if xferNow s then sendChunks stage rest (k + 1) (afterXfer true c s)
    else .raised ⟨.busError, stage, k + 1⟩ (State.setPin .cs true (afterXfer false c s))

/-- `WriteBuffer(stage)`: the whole of TB as one data frame (42_panel_protocol.md R241). -/
def sendBuffer (stage : Byte) (s : State) : Res :=
  sendChunks stage (chunksOf (tbImage s)) 0 (State.setPin .cs false (State.setPin .dc (dcData s) s))

/-- The data bytes of a Cmd step, each its own frame (42_panel_protocol.md R243). -/
def writeDataBytes (stage : Byte) (step : Nat) : List Byte → State → Res
  | [], s => .done s
  | d :: rest, s => Res.andThen (writeDataByte d stage step s) (writeDataBytes stage step rest)

/-- One init step (42_panel_protocol.md R243). -/
def runStep (stage : Byte) (j : Nat) (st : InitStep) (s : State) : Res :=
  match st with
  | .cmd c d => Res.andThen (writeCommand c stage j s) (writeDataBytes stage j d)
  | .wait t => waitBusy stage j t s
  | .delayMs t => .done (State.delay t s)

/-- `RunSteps(list, stage)` from step index `j` on, stopping at the first error (42_panel_protocol.md R243). -/
def runSteps (stage : Byte) : List InitStep → Nat → State → Res
  | [], _, s => .done s
  | st :: rest, j, s => Res.andThen (runStep stage j st s) (runSteps stage rest (j + 1))

/-- The init table, stage 0x01 (42_panel_protocol.md R244, R249). -/
def runInitTable (s : State) : Res := runSteps 0x01 s.cfg.initTable 0 s

/-- `TurnOnDisplay()`, stage 0x02 (42_panel_protocol.md R245). -/
def runTurnOn (s : State) : Res := runSteps 0x02 s.cfg.turnOnSeq 0 s

/-- RESET_PANEL (42_panel_protocol.md R234). -/
def execResetPanel (s : State) : Host.Outcome State Fault Refusal :=
  outcome (requireState s.busReady s (.done (resetPanel s)))

/-- WAIT_BUSY (42_panel_protocol.md R236). -/
def execWaitBusy (stage : BitVec 8) (timeout : BitVec 16) (s : State) : Host.Outcome State Fault Refusal :=
  outcome (requireState s.busReady s (waitBusy stage 0 timeout.toNat s))

/-- WRITE_CMD (42_panel_protocol.md R238). -/
def execWriteCmd (byte : Byte) (s : State) : Host.Outcome State Fault Refusal :=
  outcome (requireState s.busReady s (writeCommand byte 0x06 0 s))

/-- WRITE_DATA (42_panel_protocol.md R240). -/
def execWriteData (byte : Byte) (s : State) : Host.Outcome State Fault Refusal :=
  outcome (requireState s.busReady s (writeDataByte byte 0x06 0 s))

/-- WRITE_BUFFER (42_panel_protocol.md R242). -/
def execWriteBuffer (s : State) : Host.Outcome State Fault Refusal :=
  outcome (requireState s.busReady s (sendBuffer 0x06 s))

/-- INIT_SEQ (42_panel_protocol.md R244). -/
def execInitSeq (s : State) : Host.Outcome State Fault Refusal :=
  outcome (requireState s.busReady s (runInitTable s))

/-- TURN_ON_DISPLAY (42_panel_protocol.md R246). -/
def execTurnOnDisplay (s : State) : Host.Outcome State Fault Refusal :=
  outcome (requireState s.busReady s (runTurnOn s))

end Sys2Proof.Machine
end

