-- ==== Sys2Proof/Machine/Lifecycle.lean ====
section
/-! DEFINITION. The driver's lifecycle (42_panel_protocol.md R232, R233, R247 to R250): allocation, bus configuration, the flush, and the
operations FLUSH, INIT and CLOSE. -/

namespace Sys2Proof.Machine

/-- The state after a successful allocation: the buffers exist, with unspecified contents (42_panel_protocol.md R232, 10_state.md R36). -/
def allocated (s : State) : State := { s with allocDone := true, fb := [], tb := [] }

/-- The allocator's next answer (42_panel_protocol.md R232). -/
def allocNow (s : State) : Bool := Draws.peek Config.allocOk s.alloc

/-- The allocator has answered once more. -/
def State.tookAlloc (s : State) : State := { s with alloc := Draws.advance s.alloc }

/-- `Allocate()` where ALLOC_DONE = 0; skipped when already done (42_panel_protocol.md R232, R249). -/
def allocate (s : State) : Res :=
  if s.allocDone then .done s
  else if allocNow s then .done (allocated (State.tookAlloc s))
  else .raised ⟨.allocationError, 0x05, 0⟩ (State.tookAlloc s)

/-- The bus configuration's next answer (42_panel_protocol.md R233). -/
def busCfgNow (s : State) : Bool := Draws.peek Config.busConfigOk s.busCfg

/-- The bus configuration has answered once more. -/
def State.tookBusCfg (s : State) : State := { s with busCfg := Draws.advance s.busCfg }

/-- The state after a successful bus configuration: CS = 1, RST = 1, DC at the data level, BUS_READY = 1 (42_panel_protocol.md R233). -/
def busConfigured (s : State) : State :=
  { State.setPin .dc (dcData s) (State.setPin .rst true (State.setPin .cs true s)) with busReady := true }

/-- `BusConfigure()` where BUS_READY = 0; skipped when already configured (42_panel_protocol.md R233, R249). -/
def busConfigure (s : State) : Res :=
  if s.busReady then .done s
  else if busCfgNow s then .done (busConfigured (State.tookBusCfg s))
  else .raised ⟨.busError, 0x04, 0⟩ (State.tookBusCfg s)

/-- `Flush()`: data-start command, buffer, turn-on sequence (42_panel_protocol.md R247). -/
def flushPanel (s : State) : Res :=
  Res.andThen (Res.andThen (writeCommand s.cfg.dataStartCmd 0x03 0 s) (sendBuffer 0x03)) runTurnOn

/-- The flush of FLUSH and RENDER: Flushing while it runs, Idle afterwards, error or not (42_panel_protocol.md R248,
60_exceptions.md R329). -/
def flushFromIdle (s : State) : Res :=
  Res.andThen (Res.onError (flushPanel (State.setDrv .flushing s)) (State.setDrv .idle)) (fun t => .done (State.setDrv .idle t))

/-- FLUSH (42_panel_protocol.md R248). -/
def execFlush (s : State) : Host.Outcome State Fault Refusal :=
  outcome (requireState (s.drv == .idle) s (flushFromIdle s))

/-- INIT up to BusReady: allocation, bus configuration (42_panel_protocol.md R249). -/
def initBus (s : State) : Res :=
  Res.andThen (Res.andThen (allocate s) busConfigure) (fun t => .done (State.setDrv .busReady t))

/-- INIT from BusReady to PanelConfigured: reset, init table (42_panel_protocol.md R249). -/
def initPanel (s : State) : Res :=
  Res.andThen (runInitTable (resetPanel s)) (fun t => .done (State.setDrv .panelConfigured t))

/-- FB to white and TB from it (42_panel_protocol.md R249). -/
def initWhite (s : State) : State := rotateInto false (clearFb (paletteCode s.cfg .white) s)

/-- INIT from PanelConfigured to Idle: white image, flush (42_panel_protocol.md R249). -/
def initFlush (s : State) : Res :=
  Res.andThen (flushPanel (State.setDrv .flushing (initWhite s))) (fun t => .done (State.setDrv .idle t))

/-- `Init()`: any error raised in it first sets DRV_STATE to Uninitialized (42_panel_protocol.md R249, 60_exceptions.md R329). -/
def initDriver (s : State) : Res :=
  Res.onError (Res.andThen (Res.andThen (initBus s) initPanel) initFlush) (State.setDrv .uninitialized)

/-- INIT (42_panel_protocol.md R249). -/
def execInit (s : State) : Host.Outcome State Fault Refusal :=
  outcome (requireState (s.drv != .closed) s (initDriver s))

/-- The driver object destroyed: buffers and bus released, pins no longer driven (42_panel_protocol.md R250). -/
def closeDriver (s : State) : State :=
  State.setDrv .closed
    { s with allocDone := false, busReady := false, fb := [], tb := [], pinRst := none, pinDc := none, pinCs := none }

/-- CLOSE; in Closed a no-op that succeeds (42_panel_protocol.md R250). -/
def execClose (s : State) : Host.Outcome State Fault Refusal :=
  outcome (.done (if s.drv == .closed then s else closeDriver s))

end Sys2Proof.Machine
end

