-- ==== Sys2Proof/Machine/Pixel.lean ====
section
/-! DEFINITION. The pure functions of the pixel pipeline (40_pixel_map.md): orientation, distance, quantizer, matcher, ditherer, the
per-pixel map, the source raster's port and the six-colour detection. -/

namespace Sys2Proof.Machine

/-- `Orient(x, y, T)`: the source coordinates of a destination pixel (40_pixel_map.md R150). -/
def orientXY (t : Bool) (x y : Nat) : Nat × Nat := if t then (y, 799 - x) else (x, y)

/-- The signed difference of two channels, in `[-255, 255]` (40_pixel_map.md R152). -/
def chanDiff (a b : Byte) : Int := (a.toNat : Int) - (b.toNat : Int)

/-- `Dist(i, r, g, b)`: squared Euclidean distance to palette entry `i` (40_pixel_map.md R152). -/
def inkDist (cfg : Config) (i : Ink) (c : Rgb) : Int :=
  chanDiff c.r (paletteRgb cfg i).r * chanDiff c.r (paletteRgb cfg i).r
    + chanDiff c.g (paletteRgb cfg i).g * chanDiff c.g (paletteRgb cfg i).g
    + chanDiff c.b (paletteRgb cfg i).b * chanDiff c.b (paletteRgb cfg i).b

/-- The later of two entries only where it is strictly nearer: a tie keeps the earlier (40_pixel_map.md R153). -/
def nearerInk (cfg : Config) (c : Rgb) (best i : Ink) : Ink :=
  if inkDist cfg i c < inkDist cfg best c then i else best

/-- `Quantize(r, g, b)`: the nearest palette entry, ties to the earlier (40_pixel_map.md R153). -/
def quantizeInk (cfg : Config) (c : Rgb) : Ink :=
  [Ink.white, .yellow, .red, .blue, .green].foldl (nearerInk cfg c) .black

/-- Every channel of `c` is within `tol` of palette entry `i` (40_pixel_map.md R155). -/
def inkWithin (cfg : Config) (tol : Nat) (c : Rgb) (i : Ink) : Bool :=
  decide ((chanDiff c.r (paletteRgb cfg i).r).natAbs ≤ tol)
    && decide ((chanDiff c.g (paletteRgb cfg i).g).natAbs ≤ tol)
    && decide ((chanDiff c.b (paletteRgb cfg i).b).natAbs ≤ tol)

/-- `Match(r, g, b, tol)`: the first palette entry within the tolerance, if any (40_pixel_map.md R155). -/
def matchInk (cfg : Config) (c : Rgb) (tol : Nat) : Option Ink := Ink.all.find? (inkWithin cfg tol c)

/-- `DitherDelta(x, y) = (BAYER[y & 3][x & 3] - 8) * 5` (40_pixel_map.md R160). -/
def ditherDelta (cfg : Config) (x y : Nat) : Int := (bayerAt cfg x y - 8) * 5

/-- One channel of `DitherRGB`: the sum clamped to `[0, 255]` (40_pixel_map.md R161). -/
def ditherChan (v : Byte) (d : Int) : Byte := BitVec.ofInt 8 (clampInt ((v.toNat : Int) + d) 0 255)

/-- `DitherRGB(r, g, b, x, y)`: the same delta on all three channels (40_pixel_map.md R161). -/
def ditherRgb (cfg : Config) (c : Rgb) (x y : Nat) : Rgb :=
  ⟨ditherChan c.r (ditherDelta cfg x y), ditherChan c.g (ditherDelta cfg x y), ditherChan c.b (ditherDelta cfg x y)⟩

/-- `MapPixel(r, g, b, x, y, six, ordered, tol)`: palette entry and path (40_pixel_map.md R163). -/
def mapInk (cfg : Config) (c : Rgb) (x y : Nat) (six ordered : Bool) (tol : Nat) : Ink × MapPath :=
  if six then
    match matchInk cfg c tol with
    | some m => (m, .exactMatch)
    | none => (quantizeInk cfg c, .missNearest)
  else if ordered then (quantizeInk cfg (ditherRgb cfg c x y), .ditherNearest)
  else (quantizeInk cfg c, .nearest)

/-! ## The source raster's port -/

/-- The key a sample is listed under: `sy*800 + sx`, one key per sample in both geometries, since `sx < 800` (log 7). -/
def sampleKey (sx sy : Nat) : Nat := sy * 800 + sx

/-- The sample listed under a key, if any. -/
def sampleListed (cells : List (Nat × Rgb)) (k : Nat) : Option Rgb :=
  match cells with
  | [] => none
  | (j, c) :: rest => if k = j then some c else sampleListed rest k

/-- `SrcRead(sx, sy)` (10_state.md R47). -/
def srcRead (r : Raster) (sx sy : Nat) : Rgb :=
  (sampleListed r.cells (sampleKey sx sy)).getD (r.fill.getD (Config.srcSample (sampleKey sx sy)))

/-- The source sample of destination pixel (x, y), through the orientation map (40_pixel_map.md R157, 43_render.md R292 step 6). -/
def sourceAt (r : Raster) (t : Bool) (x y : Nat) : Rgb := srcRead r (orientXY t x y).1 (orientXY t x y).2

/-- `AutoDetect(T, tol)`: every destination pixel's sample matches some entry; row-major, stopping at the first miss
(40_pixel_map.md R157). -/
def autoDetect (cfg : Config) (r : Raster) (t : Bool) (tol : Nat) : Bool :=
  (List.range' 0 480).all fun y => (List.range' 0 800).all fun x => (matchInk cfg (sourceAt r t x y) tol).isSome

/-- `SixFlag(mode, T, tol)` (40_pixel_map.md R158). -/
def sixFlag (cfg : Config) (r : Raster) (mode : ColorMode) (t : Bool) (tol : Nat) : Bool :=
  match mode with
  | .auto => autoDetect cfg r t tol
  | .forceConvert => false
  | .assumeSixColor => true

end Sys2Proof.Machine
end

