-- ==== Sys2Proof/Machine/PixelMap.lean ====
section
/-! DEFINITION. The pixel map operations (40_pixel_map.md): each a pure function of its operands, legal in every driver state. -/

namespace Sys2Proof.Machine

/-- QUANTIZE (40_pixel_map.md R154). -/
def execQuantize (r g b : Byte) (s : State) : Host.Outcome State Fault Refusal :=
  outcome (.done (State.setResult (inkResult s.cfg (quantizeInk s.cfg ⟨r, g, b⟩)) s))

/-- MATCH (40_pixel_map.md R156): the raw tolerance is `sext_32(ARG0)`, clamped. -/
def execMatchColor (r g b : Byte) (s : State) : Host.Outcome State Fault Refusal :=
  outcome (.done (State.setResult (matchResult s.cfg (matchInk s.cfg ⟨r, g, b⟩ (clampTol s.arg0.toInt))) s))

/-- DITHER (40_pixel_map.md R162): the coordinate word is ARG0. -/
def execDither (r g b : Byte) (s : State) : Host.Outcome State Fault Refusal :=
  outcome (requireLegal (coordOk s.arg0) s
    (.done (State.setResult (rgbResult (ditherRgb s.cfg ⟨r, g, b⟩ (coordX s.arg0) (coordY s.arg0))) s)))

/-- What MAP_PIXEL computes from its operands (40_pixel_map.md R164). -/
def mapPixelOperands (r g b : Byte) (s : State) : Ink × MapPath :=
  mapInk s.cfg ⟨r, g, b⟩ (coordX s.arg0) (coordY s.arg0) (modeSix s.arg1) (modeOrdered s.arg1) (modeTol s.arg1)

/-- MAP_PIXEL (40_pixel_map.md R164): the coordinate word is ARG0, the mode word ARG1. -/
def execMapPixel (r g b : Byte) (s : State) : Host.Outcome State Fault Refusal :=
  outcome (requireLegal (modeReservedOk s.arg1 && coordOk s.arg0) s
    (.done (State.setResult (mapResult s.cfg (mapPixelOperands r g b s).1 (mapPixelOperands r g b s).2) s)))

/-- ORIENT (40_pixel_map.md R151). -/
def execOrient (x : BitVec 10) (y : BitVec 9) (t : Bool) (s : State) : Host.Outcome State Fault Refusal :=
  outcome (requireLegal (onPanel x.toNat y.toNat) s
    (.done (State.setResult (orientResult (orientXY t x.toNat y.toNat).1 (orientXY t x.toNat y.toNat).2) s)))

/-- Write SIX_COLOR (10_state.md R45). -/
def State.setSixColor (b : Bool) (s : State) : State := { s with sixColor := b }

/-- The detection AUTO_DETECT runs: geometry from ARG0, raw tolerance from ARG4 (40_pixel_map.md R159). -/
def autoDetectOperands (s : State) : Bool :=
  autoDetect s.cfg s.source (srcTransposed s.arg0) (clampTol s.arg4.toInt)

/-- AUTO_DETECT (40_pixel_map.md R159). -/
def execAutoDetect (s : State) : Host.Outcome State Fault Refusal :=
  outcome (requireLegal (srcReservedOk s.arg0) s
    (requireSource (srcValid s.arg0) s
      (.done (State.setResult (flagResult (autoDetectOperands s)) (State.setSixColor (autoDetectOperands s) s)))))

/-- RESOLVE_OPTS (40_pixel_map.md R166): RESULT only, EFFOPT is not latched. -/
def execResolveOpts (s : State) : Host.Outcome State Fault Refusal :=
  outcome (.done (State.setResult (effoptWord (resolvedOpts s)) s))

end Sys2Proof.Machine
end

