-- ==== Sys2Proof/Machine/Render.lean ====
section
/-! DEFINITION. RENDER (43_render.md): clear, options, detection, per-pixel map, rotation, flush. The map pass is written as the
table of the 192000 bytes it leaves; the loop of R292 itself stands in Machine/Loops.lean, beside it (log 13). -/

namespace Sys2Proof.Machine

/-- The nibble of destination pixel (x, y): the palette code of the mapped sample (43_render.md R292 step 6). -/
def pixelCode (cfg : Config) (r : Raster) (t six ordered : Bool) (tol x y : Nat) : Nibble :=
  paletteCode cfg (mapInk cfg (sourceAt r t x y) x y six ordered tol).1

/-- Byte `k` of the rendered image: pixel number `2k` in the high nibble, `2k + 1` in the low one (20_memory.md R82). -/
def renderByte (cfg : Config) (r : Raster) (t six ordered : Bool) (tol k : Nat) : Byte :=
  packNibbles (pixelCode cfg r t six ordered tol (2 * k % 800) (2 * k / 800))
    (pixelCode cfg r t six ordered tol ((2 * k + 1) % 800) ((2 * k + 1) / 800))

/-- The rendered image: every pixel mapped once (43_render.md R292 step 6, R294). -/
def renderImage (cfg : Config) (r : Raster) (t six ordered : Bool) (tol : Nat) : Image :=
  (List.range' 0 192000).map (renderByte cfg r t six ordered tol)

/-- `six` of R292 step 5: `SixFlag(mode, T, tol)` with the resolved options (43_render.md R292). -/
def renderSix (s : State) : Bool :=
  sixFlag s.cfg s.source (resolvedOpts s).mode (srcTransposed s.arg0) (resolvedOpts s).tol

/-- The image RENDER computes from the state it starts in (43_render.md R292 step 6). -/
def renderedImage (s : State) : Image :=
  renderImage s.cfg s.source (srcTransposed s.arg0) (renderSix s) (resolvedOpts s).ordered (resolvedOpts s).tol

/-- Steps 3 to 6 of RENDER: clear to white, latch the options, decide six-colour, map every pixel (43_render.md R292). The white of
step 3 is overwritten everywhere by step 6 (R294). -/
def renderFb (s : State) : State :=
  State.setFb (Memory.ofImage (renderedImage s))
    { clearFb (paletteCode s.cfg .white) s with effopt := effoptWord (resolvedOpts s), sixColor := renderSix s }

/-- Steps 3 to 8 of RENDER (43_render.md R292). -/
def renderAndFlush (s : State) : Res := flushFromIdle (rotateInto (resolvedOpts s).rot180 (renderFb s))

/-- RENDER: decode check, state, source, then the image and its flush (43_render.md R290 to R292). -/
def execRender (s : State) : Host.Outcome State Fault Refusal :=
  outcome (requireLegal (srcReservedOk s.arg0) s
    (requireState (s.drv == .idle) s
      (requireSource (srcValid s.arg0) s (renderAndFlush s))))

end Sys2Proof.Machine
end

