-- ==== Sys2Proof/Machine/Dispatch.lean ====
section
/-! DEFINITION. The dispatch: one arm per operation, each one call of its meaning. -/

namespace Sys2Proof.Machine

open Sys2Proof

def exec (i : Instr) (s : State) : Host.Outcome State Fault Refusal :=
  match i with
  | .init => Sys2Proof.Machine.execInit s
  | .render => Sys2Proof.Machine.execRender s
  | .flush => Sys2Proof.Machine.execFlush s
  | .close => Sys2Proof.Machine.execClose s
  | .resetPanel => Sys2Proof.Machine.execResetPanel s
  | .waitBusy stage timeout => Sys2Proof.Machine.execWaitBusy stage timeout s
  | .writeCmd byte => Sys2Proof.Machine.execWriteCmd byte s
  | .writeData byte => Sys2Proof.Machine.execWriteData byte s
  | .writeBuffer => Sys2Proof.Machine.execWriteBuffer s
  | .initSeq => Sys2Proof.Machine.execInitSeq s
  | .turnOnDisplay => Sys2Proof.Machine.execTurnOnDisplay s
  | .fbClear color => Sys2Proof.Machine.execFbClear color s
  | .fbGet x y => Sys2Proof.Machine.execFbGet x y s
  | .fbSet x y c => Sys2Proof.Machine.execFbSet x y c s
  | .rotate => Sys2Proof.Machine.execRotate s
  | .quantize r g b => Sys2Proof.Machine.execQuantize r g b s
  | .matchColor r g b => Sys2Proof.Machine.execMatchColor r g b s
  | .dither r g b => Sys2Proof.Machine.execDither r g b s
  | .mapPixel r g b => Sys2Proof.Machine.execMapPixel r g b s
  | .orient x y t => Sys2Proof.Machine.execOrient x y t s
  | .autoDetect => Sys2Proof.Machine.execAutoDetect s
  | .resolveOpts => Sys2Proof.Machine.execResolveOpts s

end Sys2Proof.Machine
end

