-- ==== Sys2Proof/Machine/Command.lean ====
section
/-! DEFINITION. The engine's turn: the word the host left in CMD is decoded and run, an undecodable word is IllegalCommand
(10_state.md R38, 30_encoding.md R120). -/

namespace Sys2Proof.Machine

/-- The command word in progress (10_state.md R38, 30_encoding.md R122). -/
def commandWord (s : State) : Word := s.cmd

/-- Decode the command word and run the operation to its end (10_state.md R38). -/
def runCommand (s : State) : Host.Outcome State Fault Refusal :=
  match decode (commandWord s) with
  | .ok i => exec i s
  | .error _ => outcome (illegalCommand s)

end Sys2Proof.Machine
end

