-- ==== Sys2Proof/Machine/HostPort.lean ====
section
/-! DEFINITION. The host's side of the PFE: reads and writes of the ten registers and the loading of the source raster, between
operations and while one runs (10_state.md R37 to R41, R47; 70_reset_and_hazards.md R363). -/

namespace Sys2Proof.Machine

/-- A host write between operations: CMD takes the word and sets OP_ACTIVE, ARG0..ARG4 take it, any other offset ignores it
(10_state.md R37, R38, R39). -/
def hostWrite (off v : Word) (s : State) : State :=
  if off = 0x00#32 then { s with cmd := v, opActive := true }
  else if off = 0x10#32 then { s with arg0 := v }
  else if off = 0x14#32 then { s with arg1 := v }
  else if off = 0x18#32 then { s with arg2 := v }
  else if off = 0x1C#32 then { s with arg3 := v }
  else if off = 0x20#32 then { s with arg4 := v }
  else s

/-- The word at a register offset between operations, with the level BUSY shows; CMD and every offset outside the table read as 0
(10_state.md R37). -/
def registerWord (s : State) (busyIn : Level) (off : Word) : Word :=
  if off = 0x04#32 then statusWord (statusFields s busyIn)
  else if off = 0x08#32 then s.result
  else if off = 0x0C#32 then s.errinfo
  else if off = 0x10#32 then s.arg0
  else if off = 0x14#32 then s.arg1
  else if off = 0x18#32 then s.arg2
  else if off = 0x1C#32 then s.arg3
  else if off = 0x20#32 then s.arg4
  else if off = 0x24#32 then s.effopt
  else 0#32

/-- A read of STATUS looks at BUSY, which is live (10_state.md R41, R49, log 16); no other read does. -/
def lookedAtBusy (off : Word) (s : State) : State := if off = 0x04#32 then State.tookBusyIn s else s

/-- A host read between operations (10_state.md R37). -/
def hostRead (off : Word) (s : State) : State :=
  { lookedAtBusy off s with hostData := registerWord s (busyInNow s) off }

/-- A host action while no operation runs. -/
def hostBetween (a : HostAction) (s : State) : State :=
  match a with
  | .write off v => hostWrite off v s
  | .read off => hostRead off s
  | .loadSource r => { s with source := r }

/-! ## While an operation runs -/

/-- The values DRV_STATE takes in the operation in progress, in order, the one it begins with first: those that running it from here writes
(10_state.md R31, 42_panel_protocol.md R230). No register read and no new raster changes them, for no operation sees the host's side of
the machine and the two that read the raster have it fixed (20_memory.md R95). -/
def drvCourse (s : State) : List DrvState :=
  match runCommand s with
  | .next t => s.drv :: t.drvLog.drop s.drvLog.length
  | .fault _ => [s.drv]
  | .refused _ => [s.drv]

/-- How many writes of DRV_STATE have happened when a register is read during an operation: no fewer than the last read found, a free
number more, and at most all of the operation's (20_memory.md R87, R89, log 9). -/
def drvPoint (s : State) : Nat :=
  min (max s.drvSeen s.drvLog.length + Config.midAdvance s.midReads) (s.drvLog.length + ((drvCourse s).length - 1))

/-- What DRV_STATE holds there. -/
def drvInProgress (s : State) : DrvState := ((drvCourse s)[drvPoint s - s.drvLog.length]?).getD s.drv

/-- The word a register read during an operation returns. DRV_STATE alone shows how far the operation has come; every other field reads as
it did when the operation began, BUSY_IN live (20_memory.md R87, 10_state.md R41, log 9). -/
def midRegisterWord (s : State) (busyIn : Level) (off : Word) : Word := registerWord { s with drv := drvInProgress s } busyIn off

/-- A read of STATUS during an operation looks at BUSY and at how far DRV_STATE has come; no other read does (log 9). -/
def lookedAtProgress (off : Word) (s : State) : State :=
  if off = 0x04#32 then { State.tookBusyIn s with drvSeen := drvPoint s } else s

/-- A host read during an operation (20_memory.md R87, log 9). -/
def midRead (off : Word) (s : State) : State :=
  { lookedAtProgress off s with hostData := midRegisterWord s (busyInNow s) off, midReads := s.midReads + 1 }

/-- An ARG register's offset (10_state.md R37). -/
def isArgOffset (off : Word) : Bool :=
  off == 0x10#32 || off == 0x14#32 || off == 0x18#32 || off == 0x1C#32 || off == 0x20#32

/-- The command in progress reads the source raster: RENDER or AUTO_DETECT (20_memory.md R95). -/
def readsSource (w : Word) : Bool :=
  match decode w with
  | .ok .render => true
  | .ok .autoDetect => true
  | _ => false

/-- A host write while an operation runs: to CMD it sets the mark HOST_OVERLAP (10_state.md R38, R59, log 11), to an ARG register it is
outside the discipline (70_reset_and_hazards.md R363, log 10), to any other offset it is ignored (R37). -/
def midWrite (off : Word) (s : State) : Host.Outcome State Fault Refusal :=
  if off = 0x00#32 then .next { s with hostOverlap := true }
  else if isArgOffset off then .refused .argWrittenDuringOp
  else .next s

/-- A host action while an operation runs. -/
def hostDuring (a : HostAction) (s : State) : Host.Outcome State Fault Refusal :=
  match a with
  | .write off _ => midWrite off s
  | .read off => .next (midRead off s)
  | .loadSource r => if readsSource s.cmd then .refused .sourceChangedDuringOp else .next { s with source := r }

/-! ## Whose turn it is -/

/-- Whether the host acts before the operation in progress ends (70_reset_and_hazards.md R367). -/
def hostIntrudes (s : State) : Bool :=
  match s.host with
  | e :: _ => e.early
  | [] => false

/-- The state that holds the command word `w` as the operation in progress, and no host action that would come before its end. -/
def withCommand (w : Word) (s : State) : State :=
  { s with cmd := w, opActive := true, host := s.host.dropWhile (fun e => e.early) }

/-- The next host action, taken off the list, where an operation runs. -/
def hostTurnDuring (s : State) : Host.Outcome State Fault Refusal :=
  match s.host with
  | e :: rest => hostDuring e.action { s with host := rest }
  | [] => .next s

/-- The next host action, taken off the list, between operations; with none pending the engine waits (70_reset_and_hazards.md R360). -/
def hostTurnBetween (s : State) : State :=
  match s.host with
  | e :: rest => hostBetween e.action { s with host := rest }
  | [] => s

end Sys2Proof.Machine
end

