-- ==== Sys2Proof/Machine/Step.lean ====
section
/-! DEFINITION. One step of the machine: the engine runs the operation in progress to its end, or the host acts. -/

namespace Sys2Proof.Machine

/-- One step. A machine with an ill-formed configuration has no meaning and a machine marked HOST_OVERLAP makes no step
(10_state.md R59). While OP_ACTIVE = 1 the engine runs the operation, unless the host's next action does not wait for its end; while
OP_ACTIVE = 0 the host acts, and with no action pending the machine waits (10_state.md R38, log 8). -/
def step (s : State) : Host.Outcome State Fault Refusal :=
  if s.refusedMark || !configWf s.cfg then .refused .illFormedConfig
  else if s.hostOverlap then .fault .hostOverlap
  else if s.opActive then (if hostIntrudes s then hostTurnDuring s else runCommand s)
  else .next (hostTurnBetween s)

/-- `s` with the word `w` (the bits from `nbits` on zero) in CMD and in progress, so that the next step decodes and runs it. This stands
for the host's write to CMD (10_state.md R38); it takes off the pending host actions that would act before the operation's end
(log 8). -/
def State.withFetchWord (s : State) (nbits w : Nat) : State := withCommand (BitVec.ofNat 32 (w % 2 ^ nbits)) s

end Sys2Proof.Machine
end

