-- ==== Sys2Proof/Machine/Loops.lean ====
section
/-! DEFINITION. The buffer loops of the spec's pseudocode, written as it writes them, byte by byte and pixel by pixel. No meaning calls
them: the meanings write a buffer's final image in one pass (log 13), and the statements compare the two. -/

namespace Sys2Proof.Machine

/-- `for i in 0..191999: FBWrite(i, v)` (41_framebuffer.md R201). -/
def clearLoop (v : Byte) (m : Memory) : Memory := (List.range' 0 192000).foldl (fun m i => Memory.write m i v) m

/-- `for i in 0..191999: TBWrite(i, FBRead(i))` (41_framebuffer.md R204, rotation 0). -/
def copyLoop (fresh : Nat → Byte) (fb tb : Memory) : Memory :=
  (List.range' 0 192000).foldl (fun m i => Memory.write m i (Memory.read fresh fb i)) tb

/-- The pixel loop, row-major: `for y in 0..479: for x in 0..799: SetNib(m, fx x y, fy x y, c x y)`. -/
def pixelLoop (fresh : Nat → Byte) (fx fy : Nat → Nat → Nat) (c : Nat → Nat → Nibble) (m : Memory) : Memory :=
  (List.range' 0 480).foldl
    (fun m y => (List.range' 0 800).foldl (fun m x => Memory.setNib fresh m (fx x y) (fy x y) (c x y)) m) m

/-- The pixel loop of rotation 180 (41_framebuffer.md R204). -/
def rotateLoop (freshFb freshTb : Nat → Byte) (fb tb : Memory) : Memory :=
  pixelLoop freshTb (fun x _ => 799 - x) (fun _ y => 479 - y) (fun x y => Memory.getNib freshFb fb x y) tb

/-- The pixel loop of RENDER step 6 (43_render.md R292). -/
def renderLoop (fresh : Nat → Byte) (cfg : Config) (r : Raster) (t six ordered : Bool) (tol : Nat) (m : Memory) : Memory :=
  pixelLoop fresh (fun x _ => x) (fun _ y => y) (pixelCode cfg r t six ordered tol) m

end Sys2Proof.Machine
end

