-- ==== Sys2Proof/Machine/Wire.lean ====
section
/-! DEFINITION. The wire trace as the panel reads it: frames (20_memory.md R94) and the order of the bits of a byte (R92). No meaning
reads these; claims about what the PFE sent are made in their terms. -/

namespace Sys2Proof.Machine

/-- A frame: the DC level last driven before CS went low, the bytes of its `Bytes` events in order, and whether a transfer in it
failed, after which the panel holds an unspecified prefix of that transfer (20_memory.md R93, R94). -/
structure Frame where
  dc     : Option Level
  bytes  : List Byte
  failed : Bool
deriving DecidableEq, Repr

/-- Read the frames of a trace, with the DC level last driven and the frame that is open, if any (20_memory.md R94). -/
def framesFrom : Option Level → Option Frame → List Event → List Frame
  | _, _, [] => []
  | _, cur, .pin .dc v :: es => framesFrom (some v) cur es
  | dc, none, .pin .cs false :: es => framesFrom dc (some ⟨dc, [], false⟩) es
  | dc, some f, .pin .cs false :: es => framesFrom dc (some f) es
  | dc, none, .pin .cs true :: es => framesFrom dc none es
  | dc, some f, .pin .cs true :: es => f :: framesFrom dc none es
  | dc, cur, .bytes b :: es => framesFrom dc (cur.map fun f => { f with bytes := f.bytes ++ b }) es
  | dc, cur, .bytesFailed _ :: es => framesFrom dc (cur.map fun f => { f with failed := true }) es
  | dc, cur, .pin .rst _ :: es => framesFrom dc cur es
  | dc, cur, .sample _ :: es => framesFrom dc cur es
  | dc, cur, .delay _ :: es => framesFrom dc cur es

/-- The complete frames of a trace that starts with CS high and DC not driven (20_memory.md R94). -/
def framesOf (es : List Event) : List Frame := framesFrom none none es

/-- A command frame: its DC level is DC_CMD_LEVEL (20_memory.md R94). -/
def isCommandFrame (cfg : Config) (f : Frame) : Bool := f.dc == some cfg.dcCmdLevel

/-- The bits of a byte in the order they are clocked out: most significant first where the configuration says so
(20_memory.md R92). -/
def wireBits (cfg : Config) (b : Byte) : List Level :=
  if cfg.spiMsbFirst then (List.range' 0 8).map (fun k => b.getLsbD (7 - k)) else (List.range' 0 8).map (fun k => b.getLsbD k)

/-- The bits the panel receives of event number `n` of a trace, in order (20_memory.md R92). Of a failed transfer it received a prefix, of
which nothing is known (R93, log 12). -/
def eventBits (cfg : Config) (n : Nat) : Event → List Level
  | .bytes b => b.flatMap (wireBits cfg)
  | .bytesFailed b => (b.take (Config.receivedBytes n)).flatMap (wireBits cfg)
  | .pin _ _ => []
  | .sample _ => []
  | .delay _ => []

/-- The bits the panel receives of events that stand in a trace from number `n` on. -/
def bitsFrom (cfg : Config) : Nat → List Event → List Level
  | _, [] => []
  | n, e :: es => eventBits cfg n e ++ bitsFrom cfg (n + 1) es

/-- The bits the panel receives over a whole trace, in order (20_memory.md R92, R93). -/
def traceBits (cfg : Config) (es : List Event) : List Level := bitsFrom cfg 0 es

/-- The least time an event takes, in ms (70_reset_and_hazards.md R374). -/
def eventDelay : Event → Nat
  | .delay ms => ms
  | .pin _ _ => 0
  | .bytes _ => 0
  | .bytesFailed _ => 0
  | .sample _ => 0

/-- The minimum time a trace commits to: the sum of its Delay events (70_reset_and_hazards.md R374). -/
def traceDelay (es : List Event) : Nat := (es.map eventDelay).sum

end Sys2Proof.Machine
end

