-- ==== Sys2Proof/Safety.lean ====
section
/-! DEFINITION. What claims are made in: the conditions under which an operation runs to its end, the wire events the spec lists for a
protocol that meets no failure, the allowed transitions of the driver state, and the invariants of the machine between operations. -/

namespace Sys2Proof.Machine

/-! ## Running -/

/-- A good state: neither model mark is set (10_state.md R59). -/
def goodState (s : State) : Bool := !s.hostOverlap && !s.refusedMark

/-- The engine's next step is to run the command word in CMD: the configuration is well formed, no mark is set, OP_ACTIVE = 1 and the
host waits for the operation's end. -/
def readyToRun (s : State) : Bool := configWf s.cfg && goodState s && s.opActive && !hostIntrudes s

/-- The next step is the host's: the configuration is well formed, no mark is set and OP_ACTIVE = 0. -/
def hostsTurn (s : State) : Bool := configWf s.cfg && goodState s && !s.opActive

/-! ## How an operation ends -/

/-- The state of an operation that completed: ERR = 0 and OP_ACTIVE = 0, ERRINFO as it was (10_state.md R38, R41, R43). -/
def endedOk (s : State) : State := { s with err := .ok, opActive := false }

/-- The state of an operation that raised an error of kind `k` whose ERRINFO word is `info` (60_exceptions.md R321). -/
def endedWith (k : ErrKind) (info : Word) (s : State) : State := { s with err := k, errinfo := info, opActive := false }

/-- ERR and ERRINFO of `t` are those of an error raised at a step of the list `l` run at STAGE `stage`: STEP is the index of that step, a
BusError comes from a Cmd step and a TimeoutError from a Wait step (60_exceptions.md R324, 42_panel_protocol.md R243). -/
def ListErrorAt (stage : Byte) (l : List InitStep) (t : State) : Prop :=
  ∃ j st, l[j]? = some st ∧ t.errinfo = 0#8 ++ BitVec.ofNat 16 j ++ stage
    ∧ ((∃ c d, st = .cmd c d ∧ t.err = .busError) ∨ (∃ n, st = .wait n ∧ t.err = .timeoutError))

/-- ERR and ERRINFO of `t` are those of an error raised in a flush: STAGE 0x03 with STEP 0 for the data-start command and k + 1 for chunk k
of 39, or STAGE 0x02 with a step of TURN_ON_SEQ (60_exceptions.md R324, 42_panel_protocol.md R247). -/
def FlushErrorAt (cfg : Config) (t : State) : Prop :=
  (t.err = .busError ∧ ∃ k ≤ 39, t.errinfo = 0#8 ++ BitVec.ofNat 16 k ++ 0x03#8) ∨ ListErrorAt 0x02 cfg.turnOnSeq t

/-- The operation produces a value and writes RESULT on success (30_encoding.md R118). -/
def producesResult : Instr → Bool
  | .fbGet _ _ | .quantize _ _ _ | .matchColor _ _ _ | .dither _ _ _ | .mapPixel _ _ _ | .orient _ _ _ | .autoDetect
  | .resolveOpts => true
  | .init | .render | .flush | .close | .resetPanel | .waitBusy _ _ | .writeCmd _ | .writeData _ | .writeBuffer | .initSeq
  | .turnOnDisplay | .fbClear _ | .fbSet _ _ _ | .rotate => false

/-! ## Draws -/

/-- The next `n` SPI transfers succeed (20_memory.md R93). -/
def TransfersOk (s : State) (n : Nat) : Prop := ∀ k < n, Draws.ahead Config.xferOk s.xfer k = true

/-- The next `n` looks at BUSY read 1, ready (10_state.md R49). -/
def BusyReads1 (s : State) (n : Nat) : Prop := ∀ k < n, Draws.ahead Config.busyLevel s.busy k = true

/-- The next `n` looks at BUSY read 0, busy (10_state.md R49). -/
def BusyReads0 (s : State) (n : Nat) : Prop := ∀ k < n, Draws.ahead Config.busyLevel s.busy k = false

/-- The draw input with `n` more values taken. -/
def Draws.skip (n : Nat) (d : Draws) : Draws := { d with taken := d.taken + n }

/-! ## The events of a protocol without failure -/

/-- The command frame of one byte (30_encoding.md R125). -/
def commandFrameEvents (cfg : Config) (c : Byte) : List Event :=
  [.pin .dc cfg.dcCmdLevel, .pin .cs false, .bytes [c], .pin .cs true]

/-- The single data frame of one byte (30_encoding.md R125). -/
def dataFrameEvents (cfg : Config) (d : Byte) : List Event :=
  [.pin .dc (!cfg.dcCmdLevel), .pin .cs false, .bytes [d], .pin .cs true]

/-- The buffer data frame: 39 transfers of the image's bytes in ascending order, 38 of 5000 and one of 2000 (42_panel_protocol.md
R241, 00_scope.md R8). -/
def bufferFrameEvents (cfg : Config) (img : Image) : List Event :=
  [.pin .dc (!cfg.dcCmdLevel), .pin .cs false]
    ++ (List.range' 0 39).map (fun k => Event.bytes ((img.drop (5000 * k)).take 5000)) ++ [.pin .cs true]

/-- An init step whose transfers succeed and whose first sample reads 1 (42_panel_protocol.md R243, R251). -/
def stepEvents (cfg : Config) : InitStep → List Event
  | .cmd c d => commandFrameEvents cfg c ++ d.flatMap (dataFrameEvents cfg)
  | .wait _ => [.sample true]
  | .delayMs t => [.delay t]

/-- The events of a list of init steps without failure (42_panel_protocol.md R251). -/
def stepsEvents (cfg : Config) (l : List InitStep) : List Event := l.flatMap (stepEvents cfg)

/-- How many SPI transfers an init step makes. -/
def stepTransfers : InitStep → Nat
  | .cmd _ d => 1 + d.length
  | .wait _ => 0
  | .delayMs _ => 0

/-- How many busy-waits an init step makes. -/
def stepWaits : InitStep → Nat
  | .cmd _ _ => 0
  | .wait _ => 1
  | .delayMs _ => 0

/-- How many SPI transfers a list of init steps makes. -/
def listTransfers (l : List InitStep) : Nat := (l.map stepTransfers).sum

/-- How many busy-waits a list of init steps makes. -/
def listWaits (l : List InitStep) : Nat := (l.map stepWaits).sum

/-- The reset waveform (42_panel_protocol.md R234). -/
def resetEvents : List Event := [.pin .rst true, .delay 50, .pin .rst false, .delay 20, .pin .rst true, .delay 50]

/-- The pin events of the bus configuration (42_panel_protocol.md R233). -/
def busConfigEvents (cfg : Config) : List Event := [.pin .cs true, .pin .rst true, .pin .dc (!cfg.dcCmdLevel)]

/-- A flush without failure: items 4 to 6 of 42_panel_protocol.md R251. -/
def flushEvents (cfg : Config) (img : Image) : List Event :=
  commandFrameEvents cfg cfg.dataStartCmd ++ bufferFrameEvents cfg img ++ stepsEvents cfg cfg.turnOnSeq

/-- How many SPI transfers a flush makes (42_panel_protocol.md R247). -/
def flushTransfers (cfg : Config) : Nat := 40 + listTransfers cfg.turnOnSeq

/-- A busy-wait whose first `n` samples read 0, each followed by the poll interval (42_panel_protocol.md R235). -/
def pollEvents (n : Nat) : List Event := (List.replicate n [Event.sample false, Event.delay 10]).flatten

/-- The level a line is left at by a list of events (10_state.md R48). -/
def lineAfter (p : Pin) : Option Level → List Event → Option Level
  | v, [] => v
  | v, .pin q w :: es => lineAfter p (if q = p then some w else v) es
  | v, .bytes _ :: es => lineAfter p v es
  | v, .bytesFailed _ :: es => lineAfter p v es
  | v, .sample _ :: es => lineAfter p v es
  | v, .delay _ :: es => lineAfter p v es

/-- The state in which a protocol part without failure, made of the events `es`, `n` transfers and `m` samples, leaves the machine:
the events are on the trace, the lines stand where they left them, everything else is as before. -/
def afterWire (es : List Event) (n m : Nat) (s : State) : State :=
  { s with
    trace := s.trace ++ es
    pinRst := lineAfter .rst s.pinRst es
    pinDc := lineAfter .dc s.pinDc es
    pinCs := lineAfter .cs s.pinCs es
    xfer := Draws.skip n s.xfer
    busy := Draws.skip m s.busy }

/-! ## The wire discipline -/

/-- Events that keep the wire discipline, from CS level `cs` on: DC is driven, BUSY sampled and time waited only while CS = 1, bytes are
clocked only while CS = 0, and CS ends at 1 (20_memory.md R94; 42_panel_protocol.md R237, R239, R241). -/
def framedFrom : Level → List Event → Bool
  | cs, [] => cs
  | _, .pin .cs v :: es => framedFrom v es
  | cs, .pin .dc _ :: es => cs && framedFrom cs es
  | cs, .pin .rst _ :: es => cs && framedFrom cs es
  | cs, .bytes _ :: es => !cs && framedFrom cs es
  | cs, .bytesFailed _ :: es => !cs && framedFrom cs es
  | cs, .sample _ :: es => cs && framedFrom cs es
  | cs, .delay _ :: es => cs && framedFrom cs es

/-- A frame of one of the three shapes of 30_encoding.md R125: one command byte, one data byte, or the 192000 bytes of a buffer. -/
def frameShape (cfg : Config) (f : Frame) : Bool :=
  (f.dc == some cfg.dcCmdLevel && f.bytes.length == 1)
    || (f.dc == some (!cfg.dcCmdLevel) && (f.bytes.length == 1 || f.bytes.length == 192000))

/-! ## The driver state machine -/

/-- The transitions of 42_panel_protocol.md R230 that write DRV_STATE. -/
def drvMayGo : DrvState → DrvState → Bool
  | .uninitialized, .busReady => true
  | .uninitialized, .uninitialized => true
  | .uninitialized, .closed => true
  | .busReady, .panelConfigured => true
  | .busReady, .uninitialized => true
  | .panelConfigured, .flushing => true
  | .panelConfigured, .uninitialized => true
  | .flushing, .idle => true
  | .flushing, .uninitialized => true
  | .idle, .busReady => true
  | .idle, .flushing => true
  | .idle, .closed => true
  | _, _ => false

/-- From state `d`, the driver states `l` come one after another by allowed transitions. -/
def drvChain : DrvState → List DrvState → Bool
  | _, [] => true
  | d, e :: l => drvMayGo d e && drvChain e l

/-! ## Invariants -/

/-- What holds of the machine between operations: DRV_STATE rests in Uninitialized, Idle or Closed (10_state.md R31); a configured bus
has buffers (42_panel_protocol.md R242); Idle has both, Closed has neither (R249, R250); absent buffers hold nothing and present ones
are in canonical form (10_state.md R34, R35, R57); the lines are driven exactly while BUS_READY = 1, with CS and RST high (R48, R58). -/
structure Inv (s : State) : Prop where
  resting  : s.drv = .uninitialized ∨ s.drv = .idle ∨ s.drv = .closed
  busAlloc : s.busReady = true → s.allocDone = true
  idleHas  : s.drv = .idle → s.busReady = true
  closedNo : s.drv = .closed → s.allocDone = false
  absent   : s.allocDone = false → s.fb = [] ∧ s.tb = []
  fbForm   : Memory.wf s.fb = true
  tbForm   : Memory.wf s.tb = true
  pinsOn   : s.busReady = true → s.pinCs = some true ∧ s.pinRst = some true ∧ s.pinDc.isSome = true
  pinsOff  : s.busReady = false → s.pinCs = none ∧ s.pinRst = none ∧ s.pinDc = none

/-- Every byte of FB and of TB has been written: nothing of an unspecified byte is left in them (10_state.md R36). -/
def BuffersWritten (s : State) : Prop := s.fb.length = 192000 ∧ s.tb.length = 192000

/-- The reserved bits of ERRINFO and EFFOPT read as 0, and EFFOPT holds a legal mode and tolerance (10_state.md R43, R44). -/
def RegistersLegal (s : State) : Prop :=
  s.errinfo &&& 0xFF000000#32 = 0#32 ∧ s.effopt &&& 0xFFFF80F0#32 = 0#32
    ∧ (s.effopt.extractLsb' 1 2).toNat ≤ 2 ∧ (s.effopt.extractLsb' 8 7).toNat ≤ 64

end Sys2Proof.Machine
end

