-- ==== Sys2Proof/Certificates/Slice0/Obligations.lean ====
section
/-! DEFINITION. The statements for the provers, from the numbered rules of spec/. Where a statement is about a successful protocol, its
hypotheses say that the draws the protocol takes are the good ones (`TransfersOk`, `BusyReads1`), whatever the rest of the state is. -/

open Sys2Proof Sys2Proof.Machine

/-! ## Encoding -/

/-- 30_encoding.md R110 to R119: the decoder reads back every operation from its word, every operand at every value. -/
def Obligations.DecodeOfEncode : Prop := ∀ i : Instr, decode (encode i) = .ok i

/-- 30_encoding.md R110 to R119: a word that decodes is the word of the operation it decodes to, so no two words share a meaning. -/
def Obligations.EncodeOfDecode : Prop := ∀ (w : Word) (i : Instr), decode w = .ok i → encode i = w

/-- 30_encoding.md R119, R120 steps 1 and 2: a word decodes exactly when it matches a row of the opcode map, and to that row's operation. -/
def Obligations.DecodeAcceptsExactlyTheRows : Prop :=
  ∀ w : Word,
    (∀ i, decode w = .ok i → w &&& (rowOf i).2 = (rowOf i).1)
      ∧ ∀ row ∈ opcodeRows, w &&& row.2 = row.1 → ∃ i, decode w = .ok i ∧ rowOf i = row

/-- 30_encoding.md R119: words written out from the formats decode to the operations they stand for. -/
def Obligations.WrittenWordsDecode : Prop :=
  decode 0x01000000#32 = .ok .init
    ∧ decode 0x1107001E#32 = .ok (.waitBusy 7 30)
    ∧ decode 0x12000061#32 = .ok (.writeCmd 0x61)
    ∧ decode 0x2000000F#32 = .ok (.fbClear 15)
    ∧ decode 0x22377F1F#32 = .ok (.fbSet 799 479 6)
    ∧ decode 0x30800080#32 = .ok (.quantize 128 0 128)
    ∧ decode 0x34877F1F#32 = .ok (.orient 799 479 true)

/-- 10_state.md R38: when the engine's turn has come and the word in CMD decodes to `i`, the step is the execution of `i`. -/
def Obligations.StepRunsTheDecodedOperation : Prop :=
  ∀ (s : State) (i : Instr), readyToRun s = true → decode s.cmd = .ok i → step s = exec i s

/-- 30_encoding.md R120, 60_exceptions.md R341: an undecodable word ends with IllegalCommand, STAGE 0, STEP 0, and changes nothing but
ERR and ERRINFO (and OP_ACTIVE, which every operation's end clears, 10_state.md R38). -/
def Obligations.UndecodableWordIsIllegal : Prop :=
  ∀ (s : State) (e : DecodeError), readyToRun s = true → decode s.cmd = .error e →
    step s = .next (endedWith .illegalCommand 0#32 s)

/-! ## The host's registers -/

/-- 10_state.md R37, R38, R39, R41: what a host read and a host write of each offset, and a new source raster (R47), do between operations.
That a STATUS read takes one BUSY_IN value and no other access does is the model's choice (log 16), and so are the latched command word `cmd`
and the word read `hostData` (log 3) and the host's list of actions (log 8). -/
def Obligations.HostRegisterAccess : Prop :=
  ∀ (s : State) (early : Bool) (off v : Word) (rest : List HostEvent), hostsTurn s = true →
    (s.host = ⟨early, .read off⟩ :: rest →
      ∃ t, step s = .next t
        ∧ t = { s with host := rest, hostData := t.hostData, busyIn := t.busyIn }
        ∧ (off ≠ 0x04#32 → t.busyIn = s.busyIn)
        ∧ (off = 0x04#32 → t.busyIn = Draws.skip 1 s.busyIn)
        ∧ (off = 0x00#32 → t.hostData = 0#32)
        ∧ (off = 0x04#32 → t.hostData = statusWord (statusFields s (busyInNow s)))
        ∧ (off = 0x08#32 → t.hostData = s.result)
        ∧ (off = 0x0C#32 → t.hostData = s.errinfo)
        ∧ (off = 0x10#32 → t.hostData = s.arg0)
        ∧ (off = 0x14#32 → t.hostData = s.arg1)
        ∧ (off = 0x18#32 → t.hostData = s.arg2)
        ∧ (off = 0x1C#32 → t.hostData = s.arg3)
        ∧ (off = 0x20#32 → t.hostData = s.arg4)
        ∧ (off = 0x24#32 → t.hostData = s.effopt)
        ∧ (off ∉ [0x00#32, 0x04#32, 0x08#32, 0x0C#32, 0x10#32, 0x14#32, 0x18#32, 0x1C#32, 0x20#32, 0x24#32] →
            t.hostData = 0#32))
    ∧ (s.host = ⟨early, .write off v⟩ :: rest →
      (off = 0x00#32 → step s = .next { s with host := rest, cmd := v, opActive := true })
        ∧ (off = 0x10#32 → step s = .next { s with host := rest, arg0 := v })
        ∧ (off = 0x14#32 → step s = .next { s with host := rest, arg1 := v })
        ∧ (off = 0x18#32 → step s = .next { s with host := rest, arg2 := v })
        ∧ (off = 0x1C#32 → step s = .next { s with host := rest, arg3 := v })
        ∧ (off = 0x20#32 → step s = .next { s with host := rest, arg4 := v })
        ∧ (off ∉ [0x00#32, 0x10#32, 0x14#32, 0x18#32, 0x1C#32, 0x20#32] → step s = .next { s with host := rest }))
    ∧ ∀ r, s.host = ⟨early, .loadSource r⟩ :: rest → step s = .next { s with host := rest, source := r }

/-- 10_state.md R38, R59: a CMD write sets OP_ACTIVE; the engine's step decodes and runs the word and clears OP_ACTIVE; a CMD write while
OP_ACTIVE = 1 sets the mark HOST_OVERLAP. THE MODEL'S CHOICE in it: the word is latched in one step and run in the next (log 3, log 8), and
an overlapping word is not latched and the mark is set at once (log 11). -/
def Obligations.CommandWriteStartsOneOperation : Prop :=
  (∀ (s : State) (early : Bool) (w : Word) (rest : List HostEvent), hostsTurn s = true →
      s.host = ⟨early, .write 0x00#32 w⟩ :: rest → step s = .next { s with host := rest, cmd := w, opActive := true })
    ∧ (∀ s : State, readyToRun s = true →
        ∃ t, step s = .next t ∧ t.opActive = false ∧ ∀ i, decode s.cmd = .ok i → exec i s = .next t)
    ∧ (∀ (s : State) (w : Word) (rest : List HostEvent), configWf s.cfg = true → goodState s = true → s.opActive = true →
        s.host = ⟨true, .write 0x00#32 w⟩ :: rest → step s = .next { s with host := rest, hostOverlap := true })

/-- THE MODEL'S CHOICE (log 2, log 11) for the marks of 10_state.md R59: a machine with an ill-formed configuration, or marked REFUSED, is
refused, and one marked HOST_OVERLAP faults, at every step; no operation sets or clears a mark. -/
def Obligations.MarkedMachineStops : Prop :=
  (∀ s : State, s.refusedMark = true ∨ configWf s.cfg = false → step s = .refused .illFormedConfig)
    ∧ (∀ s : State, s.refusedMark = false → configWf s.cfg = true → s.hostOverlap = true → step s = .fault .hostOverlap)
    ∧ ∀ (i : Instr) (s t : State), exec i s = .next t → t.hostOverlap = s.hostOverlap ∧ t.refusedMark = s.refusedMark

/-- What the host's accesses do while an operation runs. A write to a read-only or unlisted offset is ignored (10_state.md R37). A read of
any register but STATUS returns what it held when the operation began, and a read of STATUS the fields as they were then, but DRV_STATE,
with OP_ACTIVE = 1 and BUSY_IN live (20_memory.md R87; 10_state.md R41). DRV_STATE reads as one of the values the operation gives it, in
the order of 42_panel_protocol.md R230, none earlier than the last such read found (20_memory.md R89); which one is free (log 9). A read
changes nothing of the operation's outcome, and nothing but what it returns, the count of such reads and, of STATUS, one BUSY_IN value and
the point found (log 9, log 16). THE MODEL'S CHOICE (log 10) for the host duties of 70_reset_and_hazards.md R363: an ARG write is refused,
and so is a new source raster where the operation is RENDER or AUTO_DETECT; where it is another operation, or the word in CMD does not
decode, the raster is taken. -/
def Obligations.HostConductDuringOperation : Prop :=
  ∀ (s : State) (rest : List HostEvent), configWf s.cfg = true → goodState s = true → s.opActive = true →
    (∀ off v, s.host = ⟨true, .write off v⟩ :: rest → off ∈ [0x10#32, 0x14#32, 0x18#32, 0x1C#32, 0x20#32] →
        step s = .refused .argWrittenDuringOp)
      ∧ (∀ r, s.host = ⟨true, .loadSource r⟩ :: rest →
          ((decode s.cmd = .ok .render ∨ decode s.cmd = .ok .autoDetect) → step s = .refused .sourceChangedDuringOp)
            ∧ (decode s.cmd ≠ .ok .render → decode s.cmd ≠ .ok .autoDetect →
                step s = .next { s with host := rest, source := r }))
      ∧ (∀ off v, s.host = ⟨true, .write off v⟩ :: rest →
          off ∉ [0x00#32, 0x10#32, 0x14#32, 0x18#32, 0x1C#32, 0x20#32] → step s = .next { s with host := rest })
      ∧ (∀ off, s.host = ⟨true, .read off⟩ :: rest →
          ∃ t, step s = .next t
            ∧ t = { s with
                host := rest, hostData := t.hostData, busyIn := t.busyIn, midReads := s.midReads + 1, drvSeen := t.drvSeen }
            ∧ (off ≠ 0x04#32 → t.busyIn = s.busyIn ∧ t.drvSeen = s.drvSeen)
            ∧ (off = 0x04#32 → t.busyIn = Draws.skip 1 s.busyIn)
            ∧ (off = 0x08#32 → t.hostData = s.result)
            ∧ (off = 0x0C#32 → t.hostData = s.errinfo)
            ∧ (off = 0x10#32 → t.hostData = s.arg0)
            ∧ (off = 0x14#32 → t.hostData = s.arg1)
            ∧ (off = 0x18#32 → t.hostData = s.arg2)
            ∧ (off = 0x1C#32 → t.hostData = s.arg3)
            ∧ (off = 0x20#32 → t.hostData = s.arg4)
            ∧ (off = 0x24#32 → t.hostData = s.effopt)
            ∧ (off ∉ [0x04#32, 0x08#32, 0x0C#32, 0x10#32, 0x14#32, 0x18#32, 0x1C#32, 0x20#32, 0x24#32] → t.hostData = 0#32)
            ∧ (off = 0x04#32 → ∃ d,
                t.hostData = statusWord ⟨d, s.allocDone, s.busReady, s.sixColor, busyInNow s, true, s.err⟩
                  ∧ (∀ i u, decode s.cmd = .ok i → exec i s = .next u →
                      (s.drv :: u.drvLog.drop s.drvLog.length)[t.drvSeen - s.drvLog.length]? = some d
                        ∧ s.drvLog.length ≤ t.drvSeen ∧ t.drvSeen ≤ u.drvLog.length
                        ∧ (s.drvSeen ≤ u.drvLog.length → s.drvSeen ≤ t.drvSeen))
                  ∧ (∀ e, decode s.cmd = .error e → d = s.drv)
                  ∧ (decode s.cmd ≠ .ok .init → decode s.cmd ≠ .ok .render → decode s.cmd ≠ .ok .flush →
                      decode s.cmd ≠ .ok .close → d = s.drv)
                  ∧ (decode s.cmd = .ok .render ∨ decode s.cmd = .ok .flush → d = s.drv ∨ (s.drv = .idle ∧ d = .flushing))
                  ∧ (decode s.cmd = .ok .close → d = s.drv ∨ d = .closed)
                  ∧ (decode s.cmd = .ok .init → (d = .closed ↔ s.drv = .closed)))
            ∧ (∀ i u, exec i s = .next u → exec i t = .next { u with
                host := t.host, hostData := t.hostData, busyIn := t.busyIn, midReads := t.midReads, drvSeen := t.drvSeen }))

/-- 10_state.md R41: where the fields of STATUS stand, and that bits 31:12 read as 0; the numbers of DRV_STATE (R31, R42) and of ERR
(60_exceptions.md R320). -/
def Obligations.StatusFieldsPlaced : Prop :=
  ([DrvState.uninitialized, .busReady, .panelConfigured, .flushing, .idle, .closed].map (fun d => (DrvState.code d).toNat)
      = [0, 1, 2, 3, 4, 5]
    ∧ [ErrKind.ok, .formatError, .busError, .timeoutError, .allocationError, .stateError, .illegalCommand].map
        (fun k => (ErrKind.code k).toNat) = [0, 1, 2, 3, 4, 5, 6])
  ∧ ∀ f : StatusFields,
    (statusWord f).extractLsb' 0 3 = DrvState.code f.drv
      ∧ (statusWord f).getLsbD 3 = f.allocDone
      ∧ (statusWord f).getLsbD 4 = f.busReady
      ∧ (statusWord f).getLsbD 5 = f.sixColor
      ∧ (statusWord f).getLsbD 6 = f.busyIn
      ∧ (statusWord f).getLsbD 7 = f.opActive
      ∧ (statusWord f).extractLsb' 8 4 = ErrKind.code f.err
      ∧ (statusWord f).extractLsb' 12 20 = 0#20

/-! ## Every operation -/

/-- 10_state.md R39, 20_memory.md R95, R96: no operation writes an ARG register, CMD, the configuration, the source raster or the host's
side of the machine. -/
def Obligations.OperationsLeaveTheHostSide : Prop :=
  ∀ (i : Instr) (s t : State), exec i s = .next t →
    t.arg0 = s.arg0 ∧ t.arg1 = s.arg1 ∧ t.arg2 = s.arg2 ∧ t.arg3 = s.arg3 ∧ t.arg4 = s.arg4 ∧ t.cmd = s.cmd ∧ t.cfg = s.cfg
      ∧ t.source = s.source ∧ t.host = s.host ∧ t.hostData = s.hostData ∧ t.busyIn = s.busyIn ∧ t.midReads = s.midReads
      ∧ t.drvSeen = s.drvSeen

/-- 10_state.md R40: RESULT is written only by an operation that produces a value, and only when it succeeds. -/
def Obligations.ResultWrittenOnlyOnSuccess : Prop :=
  ∀ (i : Instr) (s t : State), exec i s = .next t → (t.err ≠ .ok ∨ producesResult i = false) → t.result = s.result

/-- 10_state.md R43, 60_exceptions.md R321: a successful operation leaves ERRINFO; one that raises writes `{zeros, step, stage}`, so bits
31:24 are 0. -/
def Obligations.ErrinfoWrittenOnlyOnError : Prop :=
  ∀ (i : Instr) (s t : State), exec i s = .next t →
    (t.err = .ok → t.errinfo = s.errinfo)
      ∧ (t.err ≠ .ok → ∃ (stage : Byte) (step : BitVec 16), t.errinfo = 0#8 ++ step ++ stage)

/-- 10_state.md R48, 20_memory.md R91: the trace only grows, and after every operation but CLOSE each line stands at the level the appended
events left it at. -/
def Obligations.LinesFollowTheTrace : Prop :=
  ∀ (i : Instr) (s t : State), i ≠ .close → exec i s = .next t →
    ∃ es, t.trace = s.trace ++ es
      ∧ t.pinRst = lineAfter .rst s.pinRst es ∧ t.pinDc = lineAfter .dc s.pinDc es ∧ t.pinCs = lineAfter .cs s.pinCs es

/-- 60_exceptions.md R340: the operations with a state precondition raise StateError, STAGE 0, STEP 0, where it does not hold (for those
with operands checked at decode, where these are legal), and change nothing else; the operations without one never raise it. -/
def Obligations.StatePreconditions : Prop :=
  ∀ s : State,
    (s.drv = .closed → exec .init s = .next (endedWith .stateError 0#32 s))
      ∧ (s.drv ≠ .idle → exec .flush s = .next (endedWith .stateError 0#32 s))
      ∧ (s.drv ≠ .idle → s.arg0.extractLsb' 2 30 = 0#30 → exec .render s = .next (endedWith .stateError 0#32 s))
      ∧ (s.busReady = false →
          ∀ i ∈ [Instr.resetPanel, .writeBuffer, .initSeq, .turnOnDisplay], exec i s = .next (endedWith .stateError 0#32 s))
      ∧ (s.busReady = false → ∀ stage timeout, exec (.waitBusy stage timeout) s = .next (endedWith .stateError 0#32 s))
      ∧ (s.busReady = false → ∀ b, exec (.writeCmd b) s = .next (endedWith .stateError 0#32 s)
          ∧ exec (.writeData b) s = .next (endedWith .stateError 0#32 s))
      ∧ (s.allocDone = false → exec .rotate s = .next (endedWith .stateError 0#32 s)
          ∧ ∀ c, exec (.fbClear c) s = .next (endedWith .stateError 0#32 s))
      ∧ (s.allocDone = false → ∀ (x : BitVec 10) (y : BitVec 9) (c : Nibble), x.toNat ≤ 799 → y.toNat ≤ 479 →
          exec (.fbGet x y) s = .next (endedWith .stateError 0#32 s)
            ∧ exec (.fbSet x y c) s = .next (endedWith .stateError 0#32 s))
      ∧ (∀ i ∈ [Instr.close, .autoDetect, .resolveOpts], ∃ t, exec i s = .next t ∧ t.err ≠ .stateError)
      ∧ (∀ r g b : Byte, ∀ i ∈ [Instr.quantize r g b, .matchColor r g b, .dither r g b, .mapPixel r g b],
          ∃ t, exec i s = .next t ∧ t.err ≠ .stateError)
      ∧ ∀ (x : BitVec 10) (y : BitVec 9) (f : Bool), ∃ t, exec (.orient x y f) s = .next t ∧ t.err ≠ .stateError

/-! ## Pixel map -/

/-- 40_pixel_map.md R150, R151: the orientation map, its range, and the operation that exposes it. -/
def Obligations.OrientOperation : Prop :=
  (∀ x y : Nat, x ≤ 799 → y ≤ 479 →
      orientXY false x y = (x, y) ∧ orientXY true x y = (y, 799 - x)
        ∧ (orientXY true x y).1 ≤ 479 ∧ (orientXY true x y).2 ≤ 799)
    ∧ ∀ (x : BitVec 10) (y : BitVec 9) (t : Bool) (s : State),
      decode (0x34#8 ++ BitVec.ofBool t ++ 0#4 ++ y ++ x) = .ok (.orient x y t)
        ∧ (x.toNat ≤ 799 → y.toNat ≤ 479 →
            exec (.orient x y t) s = .next (endedOk { s with
              result :=
                0#12 ++ BitVec.ofNat 10 (orientXY t x.toNat y.toNat).2 ++ BitVec.ofNat 10 (orientXY t x.toNat y.toNat).1 }))
        ∧ (799 < x.toNat ∨ 479 < y.toNat → exec (.orient x y t) s = .next (endedWith .illegalCommand 0#32 s))
        ∧ ∀ c : Nibble, c ≠ 0#4 → decode (0x34#8 ++ BitVec.ofBool t ++ c ++ y ++ x) = .error (.reservedBits 0x34#8)

/-- 40_pixel_map.md R152, R153, R154: the squared distance written out is an integer in `[0, 195075]`; the quantizer's entry is at the least
distance and every earlier entry is strictly farther; QUANTIZE stores its index and its code. The index is the entry's place in declaration
order and its colour and code are the table's there (00_scope.md R7, 10_state.md R50). -/
def Obligations.QuantizeNearestEarliest : Prop :=
  ((Ink.index .black).toNat = 0 ∧ (Ink.index .white).toNat = 1 ∧ (Ink.index .yellow).toNat = 2 ∧ (Ink.index .red).toNat = 3
      ∧ (Ink.index .blue).toNat = 4 ∧ (Ink.index .green).toNat = 5)
    ∧ (∀ (p : Palette) (i : Ink),
        [p.black, p.white, p.yellow, p.red, p.blue, p.green][(Ink.index i).toNat]? = some (paletteEntry p i))
    ∧ (∀ (cfg : Config) (i : Ink),
        paletteRgb cfg i = (paletteEntry cfg.palette i).rgb ∧ paletteCode cfg i = (paletteEntry cfg.palette i).code)
    ∧ (∀ (cfg : Config) (i : Ink) (r g b : Byte),
      inkDist cfg i ⟨r, g, b⟩ =
          ((r.toNat : Int) - (paletteRgb cfg i).r.toNat) ^ 2 + ((g.toNat : Int) - (paletteRgb cfg i).g.toNat) ^ 2
            + ((b.toNat : Int) - (paletteRgb cfg i).b.toNat) ^ 2
        ∧ 0 ≤ inkDist cfg i ⟨r, g, b⟩ ∧ inkDist cfg i ⟨r, g, b⟩ ≤ 195075)
    ∧ (∀ (cfg : Config) (c : Rgb) (j : Ink),
        inkDist cfg (quantizeInk cfg c) c ≤ inkDist cfg j c
          ∧ ((Ink.index j).toNat < (Ink.index (quantizeInk cfg c)).toNat →
              inkDist cfg (quantizeInk cfg c) c < inkDist cfg j c))
    ∧ ∀ (r g b : Byte) (s : State),
        decode (0x30#8 ++ r ++ g ++ b) = .ok (.quantize r g b)
          ∧ exec (.quantize r g b) s = .next (endedOk { s with
              result := 0#21 ++ Ink.index (quantizeInk s.cfg ⟨r, g, b⟩) ++ 0#4
                ++ paletteCode s.cfg (quantizeInk s.cfg ⟨r, g, b⟩) })

/-- 40_pixel_map.md R155: the first entry, in declaration order, within the tolerance on all three channels. -/
def Obligations.MatchFirstWithinTolerance : Prop :=
  ∀ (cfg : Config) (r g b : Byte) (tol : Nat) (i : Ink), tol ≤ 64 →
    let within : Ink → Prop := fun j =>
      |(r.toNat : Int) - (paletteRgb cfg j).r.toNat| ≤ tol ∧ |(g.toNat : Int) - (paletteRgb cfg j).g.toNat| ≤ tol
        ∧ |(b.toNat : Int) - (paletteRgb cfg j).b.toNat| ≤ tol
    (matchInk cfg ⟨r, g, b⟩ tol = some i ↔
        within i ∧ ∀ j, (Ink.index j).toNat < (Ink.index i).toNat → ¬within j)
      ∧ (matchInk cfg ⟨r, g, b⟩ tol = none ↔ ∀ j, ¬within j)

/-- 40_pixel_map.md R156: the raw tolerance `sext_32(ARG0)` is clamped to `[0, 64]`. -/
def Obligations.MatchOperation : Prop :=
  ∀ (r g b : Byte) (s : State),
    decode (0x31#8 ++ r ++ g ++ b) = .ok (.matchColor r g b)
      ∧ exec (.matchColor r g b) s = .next (endedOk { s with
          result := match matchInk s.cfg ⟨r, g, b⟩ (min (max s.arg0.toInt 0) 64).toNat with
            | none => 0#32
            | some m => 1#1 ++ 0#20 ++ Ink.index m ++ 0#4 ++ paletteCode s.cfg m })

/-- 40_pixel_map.md R157, R159: the detection answers true exactly when every destination pixel's sample matches some entry; the operation,
its reserved bits and its input check. The sample at (sx, sy) is what the raster says there (10_state.md R47); that a raster is a list of
samples under the keys `sy*800 + sx`, the first one under a key counting, and a colour for every other sample, is the model's choice
(log 7). -/
def Obligations.AutoDetectOperation : Prop :=
  ((∀ (fill : Option Rgb) (front back : List (Nat × Rgb)) (sx sy : Nat) (c : Rgb), (∀ p ∈ front, p.1 ≠ sy * 800 + sx) →
        srcRead ⟨fill, front ++ (sy * 800 + sx, c) :: back⟩ sx sy = c)
      ∧ (∀ (f : Rgb) (cells : List (Nat × Rgb)) (sx sy : Nat), (∀ p ∈ cells, p.1 ≠ sy * 800 + sx) →
          srcRead ⟨some f, cells⟩ sx sy = f)
      ∧ ∀ sx sy sx' sy' : Nat, sx ≤ 799 → sx' ≤ 799 → sy * 800 + sx = sy' * 800 + sx' → sx = sx' ∧ sy = sy')
    ∧ (∀ (cfg : Config) (r : Raster) (t : Bool) (tol : Nat),
      autoDetect cfg r t tol = true ↔
        ∀ x y, x ≤ 799 → y ≤ 479 → matchInk cfg (srcRead r (orientXY t x y).1 (orientXY t x y).2) tol ≠ none)
    ∧ ∀ s : State,
      (s.arg0.extractLsb' 2 30 = 0#30 → s.arg0.getLsbD 0 = true →
        exec .autoDetect s = .next (endedOk { s with
          sixColor := autoDetect s.cfg s.source (s.arg0.getLsbD 1) (min (max s.arg4.toInt 0) 64).toNat
          result := 0#31 ++ BitVec.ofBool
            (autoDetect s.cfg s.source (s.arg0.getLsbD 1) (min (max s.arg4.toInt 0) 64).toNat) }))
      ∧ (s.arg0.extractLsb' 2 30 ≠ 0#30 → exec .autoDetect s = .next (endedWith .illegalCommand 0#32 s))
      ∧ (s.arg0.extractLsb' 2 30 = 0#30 → s.arg0.getLsbD 0 = false →
          exec .autoDetect s = .next (endedWith .formatError 0#32 s))
      ∧ decode 0x35000000#32 = .ok .autoDetect

/-- 40_pixel_map.md R160, R161, under 00_scope.md R10: the threshold is row `y mod 4`, column `x mod 4` of BAYER; the delta is a multiple of 5
in `[-40, 35]`, the same for all three channels, and each sum, in `[-40, 290]`, is clamped to `[0, 255]`. -/
def Obligations.DitherClampsEachChannel : Prop :=
  (∀ (cfg : Config) (x y : Nat),
      ∃ row, [cfg.bayer.q0, cfg.bayer.q1, cfg.bayer.q2, cfg.bayer.q3][y % 4]? = some row
        ∧ [row.q0, row.q1, row.q2, row.q3][x % 4]? = some (bayerAt cfg x y))
  ∧ ∀ (cfg : Config) (c : Rgb) (x y : Nat), configWf cfg = true →
    let d := (bayerAt cfg x y - 8) * 5
    (-40 ≤ d ∧ d ≤ 35 ∧ d % 5 = 0)
      ∧ (∀ v ∈ [c.r, c.g, c.b], -40 ≤ (v.toNat : Int) + d ∧ (v.toNat : Int) + d ≤ 290)
      ∧ ((ditherRgb cfg c x y).r.toNat : Int) = min (max ((c.r.toNat : Int) + d) 0) 255
      ∧ ((ditherRgb cfg c x y).g.toNat : Int) = min (max ((c.g.toNat : Int) + d) 0) 255
      ∧ ((ditherRgb cfg c x y).b.toNat : Int) = min (max ((c.b.toNat : Int) + d) 0) 255

/-- 40_pixel_map.md R162: the coordinate word is ARG0. -/
def Obligations.DitherOperation : Prop :=
  ∀ (r g b : Byte) (s : State),
    let x := (s.arg0.extractLsb' 0 10).toNat
    let y := (s.arg0.extractLsb' 10 9).toNat
    let c := ditherRgb s.cfg ⟨r, g, b⟩ x y
    decode (0x32#8 ++ r ++ g ++ b) = .ok (.dither r g b)
      ∧ (s.arg0.extractLsb' 19 13 = 0#13 → x ≤ 799 → y ≤ 479 →
          exec (.dither r g b) s = .next (endedOk { s with result := 0#8 ++ c.r ++ c.g ++ c.b }))
      ∧ (s.arg0.extractLsb' 19 13 ≠ 0#13 ∨ 799 < x ∨ 479 < y →
          exec (.dither r g b) s = .next (endedWith .illegalCommand 0#32 s))

/-- 40_pixel_map.md R163, R164: the four paths of the per-pixel map, and the operation: the coordinate word is ARG0, the mode word ARG1. The
numbers of PATH are those of 30_encoding.md R118. -/
def Obligations.MapPixelOperation : Prop :=
  ((MapPath.code .nearest).toNat = 0 ∧ (MapPath.code .ditherNearest).toNat = 1 ∧ (MapPath.code .exactMatch).toNat = 2
      ∧ (MapPath.code .missNearest).toNat = 3)
    ∧ (∀ (cfg : Config) (c : Rgb) (x y : Nat) (ordered : Bool) (tol : Nat),
      (∀ m, matchInk cfg c tol = some m → mapInk cfg c x y true ordered tol = (m, .exactMatch))
        ∧ (matchInk cfg c tol = none → mapInk cfg c x y true ordered tol = (quantizeInk cfg c, .missNearest))
        ∧ mapInk cfg c x y false true tol = (quantizeInk cfg (ditherRgb cfg c x y), .ditherNearest)
        ∧ mapInk cfg c x y false false tol = (quantizeInk cfg c, .nearest))
    ∧ ∀ (r g b : Byte) (s : State),
      let x := (s.arg0.extractLsb' 0 10).toNat
      let y := (s.arg0.extractLsb' 10 9).toNat
      let m := mapInk s.cfg ⟨r, g, b⟩ x y (s.arg1.getLsbD 0) (s.arg1.getLsbD 1) (min (s.arg1.extractLsb' 8 7).toNat 64)
      decode (0x33#8 ++ r ++ g ++ b) = .ok (.mapPixel r g b)
        ∧ (s.arg0.extractLsb' 19 13 = 0#13 → x ≤ 799 → y ≤ 479 → s.arg1 &&& 0xFFFF80FC#32 = 0#32 →
            exec (.mapPixel r g b) s = .next (endedOk { s with
              result := 0#14 ++ MapPath.code m.2 ++ 0#5 ++ Ink.index m.1 ++ 0#4 ++ paletteCode s.cfg m.1 }))
        ∧ (s.arg0.extractLsb' 19 13 ≠ 0#13 ∨ 799 < x ∨ 479 < y ∨ s.arg1 &&& 0xFFFF80FC#32 ≠ 0#32 →
            exec (.mapPixel r g b) s = .next (endedWith .illegalCommand 0#32 s))

/-- 40_pixel_map.md R165, R166: each raw option on its own, the numbers of the two enumerations in declaration order from 0; the operation
writes RESULT only, EFFOPT stays. -/
def Obligations.ResolveOptsOperation : Prop :=
  (∀ rot mode dith tol : Int,
      ((resolveRaw rot mode dith tol).rot180 = true ↔ rot ≠ 0)
        ∧ ((ColorMode.code (resolveRaw rot mode dith tol).mode).toNat : Int) = min (max mode 0) 2
        ∧ (if (resolveRaw rot mode dith tol).ordered then (1 : Int) else 0) = min (max dith 0) 1
        ∧ ((resolveRaw rot mode dith tol).tol : Int) = min (max tol 0) 64)
    ∧ ∀ s : State,
      let o := resolveRaw s.arg1.toInt s.arg2.toInt s.arg3.toInt s.arg4.toInt
      decode 0x36000000#32 = .ok .resolveOpts
        ∧ exec .resolveOpts s = .next (endedOk { s with
            result := 0#17 ++ BitVec.ofNat 7 o.tol ++ 0#4 ++ BitVec.ofBool o.ordered ++ ColorMode.code o.mode
              ++ BitVec.ofBool o.rot180 })

/-- 40_pixel_map.md R167: the quantizer gives a reference colour its own entry at distance 0 where the six are distinct; a match at tolerance
0 exists exactly for the reference colours; matching, and so detection, is monotone in the tolerance. -/
def Obligations.QuantizerAndMatcherLaws : Prop :=
  (∀ (cfg : Config) (i : Ink), (Ink.all.map (paletteRgb cfg)).Nodup →
      quantizeInk cfg (paletteRgb cfg i) = i ∧ inkDist cfg i (paletteRgb cfg i) = 0)
    ∧ (∀ (cfg : Config) (c : Rgb), matchInk cfg c 0 ≠ none ↔ ∃ i, c = paletteRgb cfg i)
    ∧ (∀ (cfg : Config) (c : Rgb) (tol tol' : Nat), tol ≤ tol' → matchInk cfg c tol ≠ none → matchInk cfg c tol' ≠ none)
    ∧ ∀ (cfg : Config) (r : Raster) (t : Bool) (tol tol' : Nat), tol ≤ tol' →
        autoDetect cfg r t tol = true → autoDetect cfg r t tol' = true

/-- 40_pixel_map.md R168: under REFCFG a match is also the nearest entry. -/
def Obligations.ReferenceMatchIsNearest : Prop :=
  ∀ (c : Rgb) (tol : Nat) (i : Ink), tol ≤ 64 → matchInk refConfig c tol = some i → quantizeInk refConfig c = i

/-! ## Framebuffer -/

/-- 41_framebuffer.md R200: a nibble's address is on the buffer, reading gives the addressed half, and writing changes that half alone. -/
def Obligations.NibbleAccess : Prop :=
  ∀ (fresh : Nat → Byte) (m : Memory) (x y : Nat) (c : Nibble), x ≤ 799 → y ≤ 479 →
    let a := (y * 800 + x) / 2
    let b := Memory.read fresh m a
    a < 192000
      ∧ Memory.getNib fresh m x y = (if x % 2 = 0 then b.extractLsb' 4 4 else b.extractLsb' 0 4)
      ∧ Memory.read fresh (Memory.setNib fresh m x y c) a =
          (if x % 2 = 0 then c ++ b.extractLsb' 0 4 else b.extractLsb' 4 4 ++ c)
      ∧ ∀ a', a' ≠ a → Memory.read fresh (Memory.setNib fresh m x y c) a' = Memory.read fresh m a'

/-- 41_framebuffer.md R206, 20_memory.md R81: setting a pixel and getting it gives the colour, and every other pixel is unchanged. -/
def Obligations.SetThenGetPixel : Prop :=
  ∀ (fresh : Nat → Byte) (m : Memory) (x y : Nat) (c : Nibble), x ≤ 799 → y ≤ 479 →
    Memory.getNib fresh (Memory.setNib fresh m x y c) x y = c
      ∧ ∀ x' y', x' ≤ 799 → y' ≤ 479 → (x', y') ≠ (x, y) →
          Memory.getNib fresh (Memory.setNib fresh m x y c) x' y' = Memory.getNib fresh m x' y'

/-- 41_framebuffer.md R201: every FB byte becomes the doubled nibble; TB and everything else stay. -/
def Obligations.FbClearOperation : Prop :=
  ∀ (color : Nibble) (s : State),
    decode (0x20#8 ++ 0#20 ++ color) = .ok (.fbClear color)
      ∧ (∀ imm : BitVec 20, imm ≠ 0#20 → decode (0x20#8 ++ imm ++ color) = .error (.reservedBits 0x20#8))
      ∧ (s.allocDone = false → exec (.fbClear color) s = .next (endedWith .stateError 0#32 s))
      ∧ (s.allocDone = true →
          ∃ t, exec (.fbClear color) s = .next t ∧ t = endedOk { s with fb := t.fb }
            ∧ ∀ i < 192000, fbRead t i = color ++ color)

/-- 41_framebuffer.md R202: the operation, its two reserved fields, its range and its precondition. -/
def Obligations.FbGetOperation : Prop :=
  ∀ (x : BitVec 10) (y : BitVec 9) (s : State),
    decode (0x21#8 ++ 0#1 ++ 0#4 ++ y ++ x) = .ok (.fbGet x y)
      ∧ (∀ (f : BitVec 1) (c : Nibble), f ≠ 0#1 ∨ c ≠ 0#4 → decode (0x21#8 ++ f ++ c ++ y ++ x) = .error (.reservedBits 0x21#8))
      ∧ (s.allocDone = false → x.toNat ≤ 799 → y.toNat ≤ 479 → exec (.fbGet x y) s = .next (endedWith .stateError 0#32 s))
      ∧ (s.allocDone = true → x.toNat ≤ 799 → y.toNat ≤ 479 →
        exec (.fbGet x y) s = .next (endedOk { s with
          result := (Memory.getNib Config.fbFresh s.fb x.toNat y.toNat).setWidth 32 }))
      ∧ (799 < x.toNat ∨ 479 < y.toNat → exec (.fbGet x y) s = .next (endedWith .illegalCommand 0#32 s))

/-- 41_framebuffer.md R203: one nibble of one FB byte; every other byte of FB, and all of TB, reads as before; the reserved field, the
range and the precondition. -/
def Obligations.FbSetOperation : Prop :=
  ∀ (x : BitVec 10) (y : BitVec 9) (c : Nibble) (s : State),
    decode (0x22#8 ++ 0#1 ++ c ++ y ++ x) = .ok (.fbSet x y c)
      ∧ decode (0x22#8 ++ 1#1 ++ c ++ y ++ x) = .error (.reservedBits 0x22#8)
      ∧ (s.allocDone = false → x.toNat ≤ 799 → y.toNat ≤ 479 → exec (.fbSet x y c) s = .next (endedWith .stateError 0#32 s))
      ∧ (s.allocDone = true → x.toNat ≤ 799 → y.toNat ≤ 479 →
        ∃ t, exec (.fbSet x y c) s = .next t
          ∧ t = endedOk { s with fb := Memory.setNib Config.fbFresh s.fb x.toNat y.toNat c }
          ∧ fbNib t x.toNat y.toNat = c
          ∧ ∀ a, a ≠ pixelAddr x.toNat y.toNat → fbRead t a = fbRead s a)
      ∧ (799 < x.toNat ∨ 479 < y.toNat → exec (.fbSet x y c) s = .next (endedWith .illegalCommand 0#32 s))

/-- 41_framebuffer.md R204, R205: ROTATE copies FB into TB byte for byte where ARG0 is 0 and turns it by 180 degrees, pixel for pixel, for every
other value; FB and everything else stay, and TB depends on FB alone; the reserved bits and the precondition. -/
def Obligations.RotateOperation : Prop :=
  (∀ s : State, s.allocDone = true → Memory.wf s.fb = true →
      ∃ t, exec .rotate s = .next t ∧ t = endedOk { s with tb := t.tb }
        ∧ (s.arg0.toInt = 0 → ∀ i < 192000, tbRead t i = fbRead s i)
        ∧ (s.arg0.toInt ≠ 0 → ∀ x y, x ≤ 799 → y ≤ 479 → tbNib t (799 - x) (479 - y) = fbNib s x y))
    ∧ (∀ s s' t t' : State, s.allocDone = true → s'.allocDone = true → s'.fb = s.fb → s'.arg0 = s.arg0 →
        exec .rotate s = .next t → exec .rotate s' = .next t' → t'.tb = t.tb)
    ∧ decode 0x23000000#32 = .ok .rotate
    ∧ (∀ imm : BitVec 24, imm ≠ 0#24 → decode (0x23#8 ++ imm) = .error (.reservedBits 0x23#8))
    ∧ ∀ s : State, s.allocDone = false → exec .rotate s = .next (endedWith .stateError 0#32 s)

/-- 41_framebuffer.md R206: the 180 degree rotation is the byte reversal with each byte's nibbles exchanged, and undoes itself. -/
def Obligations.HalfTurnByteFormAndInvolution : Prop :=
  (∀ s : State, Memory.wf s.fb = true → ∀ k < 192000,
      tbRead (rotateInto true s) (191999 - k) = (fbRead s k).extractLsb' 0 4 ++ (fbRead s k).extractLsb' 4 4)
    ∧ ∀ s : State, Memory.wf s.fb = true → ∀ i < 192000,
        tbRead (rotateInto true { s with fb := (rotateInto true s).tb }) i = fbRead s i

/-- 41_framebuffer.md R201, R204 and 43_render.md R292 step 6: the loops the spec writes, run on any buffer in canonical form, leave exactly
the memory the model writes in one pass (the model's choice, log 13): the fill, the copy, the pixel-by-pixel half turn and the per-pixel
map. -/
def Obligations.PixelLoopsLeaveTheModelsBuffers : Prop :=
  ∀ m : Memory, Memory.wf m = true →
    (∀ v, clearLoop v m = Memory.ofImage (fillImage v))
      ∧ (∀ s : State, Memory.wf s.fb = true → copyLoop Config.fbFresh s.fb m = (rotateInto false s).tb)
      ∧ (∀ s : State, Memory.wf s.fb = true → rotateLoop Config.fbFresh Config.tbFresh s.fb m = (rotateInto true s).tb)
      ∧ ∀ (cfg : Config) (r : Raster) (t six ordered : Bool) (tol : Nat),
          renderLoop Config.fbFresh cfg r t six ordered tol m = Memory.ofImage (renderImage cfg r t six ordered tol)

/-! ## Panel protocol -/

/-- 42_panel_protocol.md R234: the six events, RST left high, nothing else. -/
def Obligations.ResetPanelWaveform : Prop :=
  ∀ s : State,
    decode 0x10000000#32 = .ok .resetPanel
      ∧ (∀ imm : BitVec 24, imm ≠ 0#24 → decode (0x10#8 ++ imm) = .error (.reservedBits 0x10#8))
      ∧ (s.busReady = true →
          exec .resetPanel s = .next (endedOk { s with
            pinRst := some true
            trace := s.trace ++ [.pin .rst true, .delay 50, .pin .rst false, .delay 20, .pin .rst true, .delay 50] }))
      ∧ (s.busReady = false → exec .resetPanel s = .next (endedWith .stateError 0#32 s))

/-- 42_panel_protocol.md R235, R236: the wait ends at the first sample that reads 1 among `floor(T/10) + 1`, or with TimeoutError after all
of them read 0; where BUS_READY = 0 it is a StateError. -/
def Obligations.WaitBusyEndsInTime : Prop :=
  ∀ (stage : BitVec 8) (timeout : BitVec 16) (s : State),
    decode (0x11#8 ++ stage ++ timeout) = .ok (.waitBusy stage timeout)
      ∧ (s.busReady = false → exec (.waitBusy stage timeout) s = .next (endedWith .stateError 0#32 s))
      ∧ (s.busReady = true → ∀ k, k ≤ timeout.toNat / 10 → BusyReads0 s k → Draws.ahead Config.busyLevel s.busy k = true →
        exec (.waitBusy stage timeout) s = .next (endedOk { s with
          trace := s.trace ++ pollEvents k ++ [.sample true]
          busy := Draws.skip (k + 1) s.busy }))
      ∧ (s.busReady = true → BusyReads0 s (timeout.toNat / 10 + 1) →
          exec (.waitBusy stage timeout) s = .next (endedWith .timeoutError (0#24 ++ stage) { s with
            trace := s.trace ++ pollEvents (timeout.toNat / 10) ++ [.sample false]
            busy := Draws.skip (timeout.toNat / 10 + 1) s.busy }))

/-- 42_panel_protocol.md R237 to R240: a command byte and a data byte go out as a frame of their own at their DC level; a failed transfer is
BusError (0x06, 0), with CS released first; the reserved bits and the precondition. -/
def Obligations.ByteFrames : Prop :=
  ∀ (b : Byte) (s : State),
    ∀ p ∈ [(Instr.writeCmd b, 0x12#8, s.cfg.dcCmdLevel), (Instr.writeData b, 0x13#8, !s.cfg.dcCmdLevel)],
      decode (p.2.1 ++ 0#16 ++ b) = .ok p.1
        ∧ (∀ imm : BitVec 16, imm ≠ 0#16 → decode (p.2.1 ++ imm ++ b) = .error (.reservedBits p.2.1))
        ∧ (s.busReady = false → exec p.1 s = .next (endedWith .stateError 0#32 s))
        ∧ (s.busReady = true → TransfersOk s 1 →
          exec p.1 s = .next (endedOk { s with
            trace := s.trace ++ [.pin .dc p.2.2, .pin .cs false, .bytes [b], .pin .cs true]
            pinDc := some p.2.2, pinCs := some true, xfer := Draws.skip 1 s.xfer }))
        ∧ (s.busReady = true → ¬TransfersOk s 1 →
            exec p.1 s = .next (endedWith .busError 0x00000006#32 { s with
              trace := s.trace ++ [.pin .dc p.2.2, .pin .cs false, .bytesFailed [b], .pin .cs true]
              pinDc := some p.2.2, pinCs := some true, xfer := Draws.skip 1 s.xfer }))

/-- 42_panel_protocol.md R241, R242: the whole of TB in 39 transfers, whose bytes in order are TB's 192000 bytes, under one CS assertion with
DC set once; nothing else changes. -/
def Obligations.WriteBufferSendsTheTransferBuffer : Prop :=
  ∀ s : State, s.busReady = true → TransfersOk s 39 →
    exec .writeBuffer s = .next (endedOk { s with
        trace := s.trace ++ bufferFrameEvents s.cfg (tbImage s)
        pinDc := some (!s.cfg.dcCmdLevel), pinCs := some true, xfer := Draws.skip 39 s.xfer })
      ∧ framesFrom s.pinDc none (bufferFrameEvents s.cfg (tbImage s)) = [⟨some (!s.cfg.dcCmdLevel), tbImage s, false⟩]
      ∧ (Memory.wf s.tb = true → ∀ i < 192000, (tbImage s)[i]? = some (tbRead s i))

/-- 42_panel_protocol.md R241, R242: a transfer that fails at chunk `k` ends the frame there with BusError (0x06, k+1). -/
def Obligations.WriteBufferStopsAtTheFailingChunk : Prop :=
  ∀ (s : State) (k : Nat), s.busReady = true → k < 39 → TransfersOk s k → Draws.ahead Config.xferOk s.xfer k = false →
    exec .writeBuffer s = .next (endedWith .busError (0#8 ++ BitVec.ofNat 16 (k + 1) ++ 0x06#8) { s with
      trace := s.trace ++ [.pin .dc (!s.cfg.dcCmdLevel), .pin .cs false]
        ++ (List.range' 0 k).map (fun j => Event.bytes (((tbImage s).drop (5000 * j)).take 5000))
        ++ [.bytesFailed (((tbImage s).drop (5000 * k)).take 5000), .pin .cs true]
      pinDc := some (!s.cfg.dcCmdLevel), pinCs := some true, xfer := Draws.skip (k + 1) s.xfer })

/-- 42_panel_protocol.md R243: the sequencer stops at the first step that raises, and that error carries the list's stage and the step's
index; a Cmd step can raise only a BusError, a Wait step only a TimeoutError, a DelayMs step nothing. R244, R246 and 60_exceptions.md R324:
so INIT_SEQ ends with STAGE 0x01 and TURN_ON_DISPLAY with STAGE 0x02, STEP being the failing step's index in its list. -/
def Obligations.SequencerStopsAtTheFirstError : Prop :=
  (∀ (stage : Byte) (front back : List InitStep) (st : InitStep) (j : Nat) (s s1 s2 : State) (e : OpError),
      runSteps stage front j s = .done s1 → runStep stage (j + front.length) st s1 = .raised e s2 →
      runSteps stage (front ++ st :: back) j s = .raised e s2)
    ∧ (∀ (stage : Byte) (st : InitStep) (j : Nat) (s s2 : State) (e : OpError), runStep stage j st s = .raised e s2 →
        e.stage = stage ∧ e.step = j
          ∧ ((∃ c d, st = .cmd c d ∧ e.kind = .busError) ∨ (∃ t, st = .wait t ∧ e.kind = .timeoutError)))
    ∧ ∀ p ∈ [(Instr.initSeq, 0x01#8, Config.initTable), (.turnOnDisplay, 0x02#8, Config.turnOnSeq)],
        (∀ (front back : List InitStep) (st : InitStep) (s s1 s2 : State) (e : OpError), s.busReady = true →
            p.2.2 s.cfg = front ++ st :: back → runSteps p.2.1 front 0 s = .done s1 →
            runStep p.2.1 front.length st s1 = .raised e s2 →
            exec p.1 s = .next (endedWith e.kind (0#8 ++ BitVec.ofNat 16 front.length ++ p.2.1) s2))
          ∧ ∀ s t : State, s.busReady = true → exec p.1 s = .next t → t.err ≠ .ok →
              ListErrorAt p.2.1 (p.2.2 s.cfg) t

/-- 42_panel_protocol.md R243 to R246: INIT_SEQ sends INIT_TABLE's events, TURN_ON_DISPLAY TURN_ON_SEQ's, in order and nothing else, where no
transfer fails and every first sample reads 1. -/
def Obligations.StepListsSendTheirEvents : Prop :=
  ∀ s : State, s.busReady = true →
    (TransfersOk s (listTransfers s.cfg.initTable) → BusyReads1 s (listWaits s.cfg.initTable) →
        exec .initSeq s = .next (endedOk
          (afterWire (stepsEvents s.cfg s.cfg.initTable) (listTransfers s.cfg.initTable) (listWaits s.cfg.initTable) s)))
      ∧ (TransfersOk s (listTransfers s.cfg.turnOnSeq) → BusyReads1 s (listWaits s.cfg.turnOnSeq) →
          exec .turnOnDisplay s = .next (endedOk
            (afterWire (stepsEvents s.cfg s.cfg.turnOnSeq) (listTransfers s.cfg.turnOnSeq) (listWaits s.cfg.turnOnSeq) s)))

/-! ## Lifecycle -/

/-- 42_panel_protocol.md R248, R251: in Idle, with no failing transfer and BUSY reading 1, FLUSH emits the data-start frame, TB and the turn-on
sequence, passes through Flushing, ends in Idle and changes nothing else. -/
def Obligations.FlushSendsTheTransferBuffer : Prop :=
  ∀ s : State, s.drv = .idle → TransfersOk s (flushTransfers s.cfg) → BusyReads1 s (listWaits s.cfg.turnOnSeq) →
    exec .flush s = .next (endedOk { afterWire (flushEvents s.cfg (tbImage s)) (flushTransfers s.cfg) (listWaits s.cfg.turnOnSeq) s with
      drv := .idle, drvLog := s.drvLog ++ [.flushing, .idle] })

/-- 60_exceptions.md R329, 42_panel_protocol.md R247, R248: whatever the draws, FLUSH in Idle ends in Idle with FB and TB as they were, and its
error, if any, is a BusError or a TimeoutError whose ERRINFO is that of 60_exceptions.md R324: STAGE 0x03 with STEP 0 for the data-start
command and k + 1 for chunk k, or STAGE 0x02 with the index of the failing step of TURN_ON_SEQ. -/
def Obligations.FlushFailureKeepsTheImage : Prop :=
  ∀ s t : State, s.drv = .idle → exec .flush s = .next t →
    t.drv = .idle ∧ t.fb = s.fb ∧ t.tb = s.tb ∧ t.result = s.result ∧ t.effopt = s.effopt ∧ t.sixColor = s.sixColor
      ∧ t.allocDone = s.allocDone ∧ t.busReady = s.busReady
      ∧ (t.err = .ok ∨ t.err = .busError ∨ t.err = .timeoutError)
      ∧ (t.err = .ok → t.errinfo = s.errinfo)
      ∧ (t.err ≠ .ok → FlushErrorAt s.cfg t)
      ∧ (∀ k ≤ 39, TransfersOk s k → Draws.ahead Config.xferOk s.xfer k = false →
          t.err = .busError ∧ t.errinfo = 0#8 ++ BitVec.ofNat 16 k ++ 0x03#8)

/-- 42_panel_protocol.md R249, R251: INIT with no failing draw, from any state but Closed: allocation and bus configuration only where not yet
done, then reset, INIT_TABLE, both buffers white, the flush; Idle in the end and nothing else changed. -/
def Obligations.InitSucceeds : Prop :=
  ∀ s : State, s.drv ≠ .closed →
    (s.allocDone = false → allocNow s = true) → (s.busReady = false → busCfgNow s = true) →
    TransfersOk s (listTransfers s.cfg.initTable + flushTransfers s.cfg) →
    BusyReads1 s (listWaits s.cfg.initTable + listWaits s.cfg.turnOnSeq) →
    let white := Memory.ofImage (List.replicate 192000 (paletteCode s.cfg .white ++ paletteCode s.cfg .white))
    let es := (if s.busReady then [] else busConfigEvents s.cfg) ++ resetEvents ++ stepsEvents s.cfg s.cfg.initTable
      ++ flushEvents s.cfg (List.replicate 192000 (paletteCode s.cfg .white ++ paletteCode s.cfg .white))
    exec .init s = .next (endedOk
      { afterWire es (listTransfers s.cfg.initTable + flushTransfers s.cfg)
          (listWaits s.cfg.initTable + listWaits s.cfg.turnOnSeq) s with
        drv := .idle
        drvLog := s.drvLog ++ [.busReady, .panelConfigured, .flushing, .idle]
        allocDone := true
        busReady := true
        fb := white
        tb := white
        alloc := if s.allocDone then s.alloc else Draws.skip 1 s.alloc
        busCfg := if s.busReady then s.busCfg else Draws.skip 1 s.busCfg })

/-- 42_panel_protocol.md R249, 60_exceptions.md R324, R329, R337, R339: INIT from any state but Closed ends in Idle with ERR = 0 or in
Uninitialized with one of its errors. A failed allocation ends it at once; a failed bus configuration ends it with what this INIT has
allocated; neither emits a wire event. Every other error is that of a step of INIT_TABLE (STAGE 0x01) or of the flush (STAGE 0x03, 0x02). -/
def Obligations.InitFailureLeavesUninitialized : Prop :=
  ∀ s t : State, s.drv ≠ .closed → exec .init s = .next t →
    ((t.err = .ok ∧ t.drv = .idle)
        ∨ (t.drv = .uninitialized ∧ (t.err = .allocationError ∨ t.err = .busError ∨ t.err = .timeoutError)))
      ∧ (s.allocDone = false → allocNow s = false →
          t = endedWith .allocationError 0x00000005#32
            { s with alloc := Draws.skip 1 s.alloc, drv := .uninitialized, drvLog := s.drvLog ++ [.uninitialized] })
      ∧ (s.allocDone = true → s.busReady = false → busCfgNow s = false →
          t = endedWith .busError 0x00000004#32
            { s with busCfg := Draws.skip 1 s.busCfg, drv := .uninitialized, drvLog := s.drvLog ++ [.uninitialized] })
      ∧ (s.allocDone = false → allocNow s = true → s.busReady = false → busCfgNow s = false →
          t = endedWith .busError 0x00000004#32
              { s with
                alloc := Draws.skip 1 s.alloc, busCfg := Draws.skip 1 s.busCfg, allocDone := true, fb := [], tb := []
                drv := .uninitialized, drvLog := s.drvLog ++ [.uninitialized] }
            ∧ ∀ a, fbRead t a = Config.fbFresh a ∧ tbRead t a = Config.tbFresh a)
      ∧ (s.allocDone = true ∨ allocNow s = true → t.allocDone = true)
      ∧ (t.allocDone = true → s.busReady = true ∨ busCfgNow s = true →
          t.busReady = true ∧ (t.err ≠ .ok → ListErrorAt 0x01 s.cfg.initTable t ∨ FlushErrorAt s.cfg t))
      ∧ (s.busReady = true → t.busReady = true)

/-- 42_panel_protocol.md R250: CLOSE releases the buffers, the bus and the lines, emits nothing and is terminal; in Closed it is a no-op that
succeeds. -/
def Obligations.CloseReleasesEverything : Prop :=
  ∀ s : State,
    (s.drv ≠ .closed →
        exec .close s = .next (endedOk { s with
          allocDone := false, busReady := false, fb := [], tb := [], pinRst := none, pinDc := none, pinCs := none
          drv := .closed, drvLog := s.drvLog ++ [.closed] }))
      ∧ (s.drv = .closed → exec .close s = .next (endedOk s))
      ∧ ∀ (i : Instr) (t : State), s.drv = .closed → exec i s = .next t → t.drv = .closed

/-! ## Render -/

/-- 43_render.md R290, R291, R292: RENDER in Idle of an accepted source, with no failing draw: the mapped image in FB, its rotation in TB, the
options and the six-colour decision latched, and the flush of TB; nothing else changes. 40_pixel_map.md R158: the decision is the detection's
in mode Auto, false in ForceConvert and true in AssumeSixColor. -/
def Obligations.RenderSucceeds : Prop :=
  (∀ (cfg : Config) (r : Raster) (t : Bool) (tol : Nat),
      sixFlag cfg r .auto t tol = autoDetect cfg r t tol ∧ sixFlag cfg r .forceConvert t tol = false
        ∧ sixFlag cfg r .assumeSixColor t tol = true)
  ∧ ∀ s : State, s.drv = .idle → s.arg0.extractLsb' 2 30 = 0#30 → s.arg0.getLsbD 0 = true →
    TransfersOk s (flushTransfers s.cfg) → BusyReads1 s (listWaits s.cfg.turnOnSeq) →
    let o := resolveRaw s.arg1.toInt s.arg2.toInt s.arg3.toInt s.arg4.toInt
    let six := sixFlag s.cfg s.source o.mode (s.arg0.getLsbD 1) o.tol
    let img := renderImage s.cfg s.source (s.arg0.getLsbD 1) six o.ordered o.tol
    exec .render s = .next (endedOk
      { afterWire (flushEvents s.cfg (rotateImage o.rot180 img)) (flushTransfers s.cfg) (listWaits s.cfg.turnOnSeq) s with
        drv := .idle
        drvLog := s.drvLog ++ [.flushing, .idle]
        fb := Memory.ofImage img
        tb := Memory.ofImage (rotateImage o.rot180 img)
        effopt := effoptWord o
        sixColor := six })

/-- 43_render.md R294: after a RENDER that passes R291, whatever its flush does, every pixel of FB is the code of the per-pixel map of its own
source sample. -/
def Obligations.RenderMapsEveryPixelAlone : Prop :=
  ∀ s t : State, s.drv = .idle → s.arg0.extractLsb' 2 30 = 0#30 → s.arg0.getLsbD 0 = true → exec .render s = .next t →
    let o := resolveRaw s.arg1.toInt s.arg2.toInt s.arg3.toInt s.arg4.toInt
    let six := sixFlag s.cfg s.source o.mode (s.arg0.getLsbD 1) o.tol
    ∀ x y, x ≤ 799 → y ≤ 479 →
      fbNib t x y = paletteCode s.cfg
        (mapInk s.cfg (srcRead s.source (orientXY (s.arg0.getLsbD 1) x y).1 (orientXY (s.arg0.getLsbD 1) x y).2) x y six
          o.ordered o.tol).1

/-- 43_render.md R295: after a RENDER that passes R291, TB is FB at rotation 0 and its half turn at 180. -/
def Obligations.RenderRotatesIntoTheTransferBuffer : Prop :=
  ∀ s t : State, s.drv = .idle → s.arg0.extractLsb' 2 30 = 0#30 → s.arg0.getLsbD 0 = true → exec .render s = .next t →
    (s.arg1.toInt = 0 → ∀ i < 192000, tbRead t i = fbRead t i)
      ∧ (s.arg1.toInt ≠ 0 → ∀ x y, x ≤ 799 → y ≤ 479 → tbNib t (799 - x) (479 - y) = fbNib t x y)

/-- 43_render.md R293: the state each outcome of RENDER leaves, the stage and step of a failing flush as 60_exceptions.md R324 has them. -/
def Obligations.RenderOutcomes : Prop :=
  ∀ s : State,
    (s.arg0.extractLsb' 2 30 ≠ 0#30 → exec .render s = .next (endedWith .illegalCommand 0#32 s))
      ∧ (s.arg0.extractLsb' 2 30 = 0#30 → s.drv ≠ .idle → exec .render s = .next (endedWith .stateError 0#32 s))
      ∧ (s.arg0.extractLsb' 2 30 = 0#30 → s.drv = .idle → s.arg0.getLsbD 0 = false →
          exec .render s = .next (endedWith .formatError 0#32 s))
      ∧ (s.arg0.extractLsb' 2 30 = 0#30 → s.drv = .idle → s.arg0.getLsbD 0 = true →
          ∃ t, exec .render s = .next t
            ∧ t.drv = .idle
            ∧ (t.err = .ok ∨ t.err = .busError ∨ t.err = .timeoutError)
            ∧ t.fb = Memory.ofImage (renderedImage s)
            ∧ t.tb = Memory.ofImage (rotateImage (resolvedOpts s).rot180 (renderedImage s))
            ∧ t.effopt = effoptWord (resolvedOpts s) ∧ t.sixColor = renderSix s
            ∧ (t.err = .ok → t.errinfo = s.errinfo)
            ∧ (t.err ≠ .ok → FlushErrorAt s.cfg t))

/-! ## The whole machine -/

/-- 10_state.md R57: every value the spec gives for construction, whatever the configuration; the mark REFUSED is set exactly where the
configuration breaks 00_scope.md R10: two reference colours equal, a threshold outside `[0, 15]` or a timeout above 65535. -/
def Obligations.ConstructionValues : Prop :=
  (∀ cfg : Config, configWf cfg = true ↔
      (∀ i j : Ink, paletteRgb cfg i = paletteRgb cfg j → i = j)
        ∧ (∀ row ∈ [cfg.bayer.q0, cfg.bayer.q1, cfg.bayer.q2, cfg.bayer.q3],
            ∀ v ∈ [row.q0, row.q1, row.q2, row.q3], 0 ≤ v ∧ v ≤ 15)
        ∧ ∀ n, .wait n ∈ cfg.initTable ∨ .wait n ∈ cfg.turnOnSeq → n ≤ 65535)
  ∧ ∀ cfg : Config,
    let s := State.resetWith cfg
    s.cfg = cfg ∧ s.drv = .uninitialized ∧ s.allocDone = false ∧ s.busReady = false ∧ s.sixColor = false ∧ s.opActive = false
      ∧ s.err = .ok ∧ s.errinfo = 0#32 ∧ s.result = 0#32 ∧ s.arg0 = 0#32 ∧ s.arg1 = 0#32 ∧ s.arg2 = 0#32 ∧ s.arg3 = 0#32
      ∧ s.arg4 = 0#32 ∧ s.effopt = 0#32 ∧ s.fb = [] ∧ s.tb = [] ∧ s.pinRst = none ∧ s.pinDc = none ∧ s.pinCs = none
      ∧ s.trace = [] ∧ s.hostOverlap = false ∧ (s.refusedMark = true ↔ configWf cfg = false)

/-- The machine after construction meets the invariants, whatever its configuration, `State.reset` among them. -/
def Obligations.InvariantAfterConstruction : Prop :=
  (∀ cfg : Config, Inv (State.resetWith cfg) ∧ RegistersLegal (State.resetWith cfg)) ∧ Inv State.reset ∧ goodState State.reset = true

/-- 10_state.md R31, R34, R48; 42_panel_protocol.md R242, R249, R250: every step, from every state that meets the invariant, keeps it. -/
def Obligations.EveryStepKeepsTheInvariant : Prop := ∀ s t : State, Inv s → step s = .next t → Inv t

/-- 10_state.md R36: in Idle every byte of both buffers has been written, so no flushed byte is ever an unspecified byte. -/
def Obligations.IdleBuffersAreWritten : Prop :=
  ∀ s t : State, Inv s → (s.drv = .idle → BuffersWritten s) → step s = .next t → (t.drv = .idle → BuffersWritten t)

/-- 10_state.md R43, R44: every step keeps the reserved bits of ERRINFO and EFFOPT at 0 and EFFOPT's mode and tolerance legal. -/
def Obligations.RegistersStayLegal : Prop := ∀ s t : State, RegistersLegal s → step s = .next t → RegistersLegal t

/-- 42_panel_protocol.md R230: whatever a step writes to DRV_STATE, from a state between operations, is a chain of transitions of the driver
state machine. -/
def Obligations.DriverStateMovesAsAllowed : Prop :=
  ∀ s t : State, Inv s → step s = .next t →
    ∃ l, t.drvLog = s.drvLog ++ l ∧ drvChain s.drv l = true ∧ t.drv = l.getLastD s.drv

/-- 20_memory.md R91, R94; 42_panel_protocol.md R237, R241: every step only appends to the trace, and what it appends keeps the wire
discipline: DC is never driven while CS = 0, bytes are clocked only while CS = 0, and CS is released at the end, errors included. -/
def Obligations.EveryStepKeepsTheWireDiscipline : Prop :=
  ∀ s t : State, step s = .next t → ∃ es, t.trace = s.trace ++ es ∧ framedFrom true es = true

/-- 30_encoding.md R125: every frame a step sends in which no transfer failed has one of the three shapes. -/
def Obligations.OnlyThreeFrameShapes : Prop :=
  ∀ s t : State, step s = .next t →
    ∃ es, t.trace = s.trace ++ es ∧ (framesOf es).all (fun f => f.failed || frameShape s.cfg f) = true

/-- 70_reset_and_hazards.md R372, R374: RESET_PANEL commits to 120 ms; a WAIT_BUSY with timeout T to at most `10 * floor(T/10)` ms, with at
most `floor(T/10) + 1` samples. -/
def Obligations.CommittedDelays : Prop :=
  (∀ s t : State, s.busReady = true → exec .resetPanel s = .next t → traceDelay t.trace = traceDelay s.trace + 120)
    ∧ ∀ (stage : BitVec 8) (timeout : BitVec 16) (s t : State), s.busReady = true →
        exec (.waitBusy stage timeout) s = .next t →
        t.busy.taken ≤ s.busy.taken + (timeout.toNat / 10 + 1)
          ∧ traceDelay t.trace ≤ traceDelay s.trace + 10 * (timeout.toNat / 10)
          ∧ (t.err ≠ .ok → traceDelay t.trace = traceDelay s.trace + 10 * (timeout.toNat / 10))
end

