-- ==== Sys2Proof/Laws/Encoding.lean ====
section
/-! SUPPORT. The fields of a word written out as a concatenation, for each format (30_encoding.md R110 to R116): what the decoder's field
functions read from it. -/

namespace Sys2Proof

/-! ## Format N -/

theorem opcField_N (o : BitVec 8) (imm : BitVec 24) : opcField (o ++ imm) = o := by
  unfold opcField
  grind

theorem immField_N (o : BitVec 8) (imm : BitVec 24) : immField (o ++ imm) = imm := by
  unfold immField
  grind

/-! ## Format B -/

theorem opcField_B (o : BitVec 8) (z : BitVec 16) (b : Byte) : opcField (o ++ z ++ b) = o := by
  unfold opcField
  grind

theorem reserved_B (o : BitVec 8) (z : BitVec 16) (b : Byte) : (o ++ z ++ b : Word).extractLsb' 8 16 = z := by grind

theorem byte_B (o : BitVec 8) (z : BitVec 16) (b : Byte) : (o ++ z ++ b : Word).extractLsb' 0 8 = b := by grind

/-! ## Format C -/

theorem opcField_C (o : BitVec 8) (z : BitVec 20) (c : Nibble) : opcField (o ++ z ++ c) = o := by
  unfold opcField
  grind

theorem reserved_C (o : BitVec 8) (z : BitVec 20) (c : Nibble) : (o ++ z ++ c : Word).extractLsb' 4 20 = z := by grind

theorem color_C (o : BitVec 8) (z : BitVec 20) (c : Nibble) : (o ++ z ++ c : Word).extractLsb' 0 4 = c := by grind

/-! ## Format P -/

section
variable (o : BitVec 8) (t : BitVec 1) (c : Nibble) (y : BitVec 9) (x : BitVec 10)

theorem opcField_P : opcField (o ++ t ++ c ++ y ++ x) = o := by
  unfold opcField
  grind

theorem fieldX_P : fieldX (o ++ t ++ c ++ y ++ x) = x := by
  unfold fieldX
  grind

theorem fieldY_P : fieldY (o ++ t ++ c ++ y ++ x) = y := by
  unfold fieldY
  grind

theorem fieldC_P : fieldC (o ++ t ++ c ++ y ++ x) = c := by
  unfold fieldC
  grind

theorem fieldT_P : fieldT (o ++ t ++ c ++ y ++ x) = t := by
  unfold fieldT
  grind
end

/-! ## Format RGB -/

section
variable (o r g b : BitVec 8)

theorem opcField_Rgb : opcField (o ++ r ++ g ++ b) = o := by
  unfold opcField
  grind

theorem red_Rgb : (o ++ r ++ g ++ b : Word).extractLsb' 16 8 = r := by grind

theorem green_Rgb : (o ++ r ++ g ++ b : Word).extractLsb' 8 8 = g := by grind

theorem blue_Rgb : (o ++ r ++ g ++ b : Word).extractLsb' 0 8 = b := by grind
end

/-! ## Format W -/

section
variable (o stage : BitVec 8) (timeout : BitVec 16)

theorem opcField_W : opcField (o ++ stage ++ timeout) = o := by
  unfold opcField
  grind

theorem stage_W : (o ++ stage ++ timeout : Word).extractLsb' 16 8 = stage := by grind

theorem timeout_W : (o ++ stage ++ timeout : Word).extractLsb' 0 16 = timeout := by grind
end

end Sys2Proof
end

