-- ==== Sys2Proof/Laws/State.lean ====
section
/-! SUPPORT. What each update of a state leaves in each field, by definition: one lemma per field per update, for `simp`. -/

namespace Sys2Proof.Machine

open Sys2Proof

/-! Appending an event -/

section
variable (e : Event) (s : State)
@[simp] theorem State.emit_cfg : (State.emit e s).cfg = s.cfg := rfl
@[simp] theorem State.emit_drv : (State.emit e s).drv = s.drv := rfl
@[simp] theorem State.emit_allocDone : (State.emit e s).allocDone = s.allocDone := rfl
@[simp] theorem State.emit_busReady : (State.emit e s).busReady = s.busReady := rfl
@[simp] theorem State.emit_sixColor : (State.emit e s).sixColor = s.sixColor := rfl
@[simp] theorem State.emit_opActive : (State.emit e s).opActive = s.opActive := rfl
@[simp] theorem State.emit_err : (State.emit e s).err = s.err := rfl
@[simp] theorem State.emit_cmd : (State.emit e s).cmd = s.cmd := rfl
@[simp] theorem State.emit_result : (State.emit e s).result = s.result := rfl
@[simp] theorem State.emit_errinfo : (State.emit e s).errinfo = s.errinfo := rfl
@[simp] theorem State.emit_effopt : (State.emit e s).effopt = s.effopt := rfl
@[simp] theorem State.emit_arg0 : (State.emit e s).arg0 = s.arg0 := rfl
@[simp] theorem State.emit_arg1 : (State.emit e s).arg1 = s.arg1 := rfl
@[simp] theorem State.emit_arg2 : (State.emit e s).arg2 = s.arg2 := rfl
@[simp] theorem State.emit_arg3 : (State.emit e s).arg3 = s.arg3 := rfl
@[simp] theorem State.emit_arg4 : (State.emit e s).arg4 = s.arg4 := rfl
@[simp] theorem State.emit_fb : (State.emit e s).fb = s.fb := rfl
@[simp] theorem State.emit_tb : (State.emit e s).tb = s.tb := rfl
@[simp] theorem State.emit_pinRst : (State.emit e s).pinRst = s.pinRst := rfl
@[simp] theorem State.emit_pinDc : (State.emit e s).pinDc = s.pinDc := rfl
@[simp] theorem State.emit_pinCs : (State.emit e s).pinCs = s.pinCs := rfl
@[simp] theorem State.emit_trace : (State.emit e s).trace = s.trace ++ [e] := rfl
@[simp] theorem State.emit_source : (State.emit e s).source = s.source := rfl
@[simp] theorem State.emit_hostOverlap : (State.emit e s).hostOverlap = s.hostOverlap := rfl
@[simp] theorem State.emit_refusedMark : (State.emit e s).refusedMark = s.refusedMark := rfl
@[simp] theorem State.emit_host : (State.emit e s).host = s.host := rfl
@[simp] theorem State.emit_hostData : (State.emit e s).hostData = s.hostData := rfl
@[simp] theorem State.emit_busy : (State.emit e s).busy = s.busy := rfl
@[simp] theorem State.emit_busyIn : (State.emit e s).busyIn = s.busyIn := rfl
@[simp] theorem State.emit_xfer : (State.emit e s).xfer = s.xfer := rfl
@[simp] theorem State.emit_alloc : (State.emit e s).alloc = s.alloc := rfl
@[simp] theorem State.emit_busCfg : (State.emit e s).busCfg = s.busCfg := rfl
@[simp] theorem State.emit_midReads : (State.emit e s).midReads = s.midReads := rfl
@[simp] theorem State.emit_drvSeen : (State.emit e s).drvSeen = s.drvSeen := rfl
@[simp] theorem State.emit_drvLog : (State.emit e s).drvLog = s.drvLog := rfl
end

/-! A delay -/

section
variable (ms : Nat) (s : State)
@[simp] theorem State.delay_cfg : (State.delay ms s).cfg = s.cfg := rfl
@[simp] theorem State.delay_drv : (State.delay ms s).drv = s.drv := rfl
@[simp] theorem State.delay_allocDone : (State.delay ms s).allocDone = s.allocDone := rfl
@[simp] theorem State.delay_busReady : (State.delay ms s).busReady = s.busReady := rfl
@[simp] theorem State.delay_sixColor : (State.delay ms s).sixColor = s.sixColor := rfl
@[simp] theorem State.delay_opActive : (State.delay ms s).opActive = s.opActive := rfl
@[simp] theorem State.delay_err : (State.delay ms s).err = s.err := rfl
@[simp] theorem State.delay_cmd : (State.delay ms s).cmd = s.cmd := rfl
@[simp] theorem State.delay_result : (State.delay ms s).result = s.result := rfl
@[simp] theorem State.delay_errinfo : (State.delay ms s).errinfo = s.errinfo := rfl
@[simp] theorem State.delay_effopt : (State.delay ms s).effopt = s.effopt := rfl
@[simp] theorem State.delay_arg0 : (State.delay ms s).arg0 = s.arg0 := rfl
@[simp] theorem State.delay_arg1 : (State.delay ms s).arg1 = s.arg1 := rfl
@[simp] theorem State.delay_arg2 : (State.delay ms s).arg2 = s.arg2 := rfl
@[simp] theorem State.delay_arg3 : (State.delay ms s).arg3 = s.arg3 := rfl
@[simp] theorem State.delay_arg4 : (State.delay ms s).arg4 = s.arg4 := rfl
@[simp] theorem State.delay_fb : (State.delay ms s).fb = s.fb := rfl
@[simp] theorem State.delay_tb : (State.delay ms s).tb = s.tb := rfl
@[simp] theorem State.delay_pinRst : (State.delay ms s).pinRst = s.pinRst := rfl
@[simp] theorem State.delay_pinDc : (State.delay ms s).pinDc = s.pinDc := rfl
@[simp] theorem State.delay_pinCs : (State.delay ms s).pinCs = s.pinCs := rfl
@[simp] theorem State.delay_trace : (State.delay ms s).trace = s.trace ++ [Event.delay ms] := rfl
@[simp] theorem State.delay_source : (State.delay ms s).source = s.source := rfl
@[simp] theorem State.delay_hostOverlap : (State.delay ms s).hostOverlap = s.hostOverlap := rfl
@[simp] theorem State.delay_refusedMark : (State.delay ms s).refusedMark = s.refusedMark := rfl
@[simp] theorem State.delay_host : (State.delay ms s).host = s.host := rfl
@[simp] theorem State.delay_hostData : (State.delay ms s).hostData = s.hostData := rfl
@[simp] theorem State.delay_busy : (State.delay ms s).busy = s.busy := rfl
@[simp] theorem State.delay_busyIn : (State.delay ms s).busyIn = s.busyIn := rfl
@[simp] theorem State.delay_xfer : (State.delay ms s).xfer = s.xfer := rfl
@[simp] theorem State.delay_alloc : (State.delay ms s).alloc = s.alloc := rfl
@[simp] theorem State.delay_busCfg : (State.delay ms s).busCfg = s.busCfg := rfl
@[simp] theorem State.delay_midReads : (State.delay ms s).midReads = s.midReads := rfl
@[simp] theorem State.delay_drvSeen : (State.delay ms s).drvSeen = s.drvSeen := rfl
@[simp] theorem State.delay_drvLog : (State.delay ms s).drvLog = s.drvLog := rfl
end

/-! Writing DRV_STATE -/

section
variable (d : DrvState) (s : State)
@[simp] theorem State.setDrv_cfg : (State.setDrv d s).cfg = s.cfg := rfl
@[simp] theorem State.setDrv_drv : (State.setDrv d s).drv = d := rfl
@[simp] theorem State.setDrv_allocDone : (State.setDrv d s).allocDone = s.allocDone := rfl
@[simp] theorem State.setDrv_busReady : (State.setDrv d s).busReady = s.busReady := rfl
@[simp] theorem State.setDrv_sixColor : (State.setDrv d s).sixColor = s.sixColor := rfl
@[simp] theorem State.setDrv_opActive : (State.setDrv d s).opActive = s.opActive := rfl
@[simp] theorem State.setDrv_err : (State.setDrv d s).err = s.err := rfl
@[simp] theorem State.setDrv_cmd : (State.setDrv d s).cmd = s.cmd := rfl
@[simp] theorem State.setDrv_result : (State.setDrv d s).result = s.result := rfl
@[simp] theorem State.setDrv_errinfo : (State.setDrv d s).errinfo = s.errinfo := rfl
@[simp] theorem State.setDrv_effopt : (State.setDrv d s).effopt = s.effopt := rfl
@[simp] theorem State.setDrv_arg0 : (State.setDrv d s).arg0 = s.arg0 := rfl
@[simp] theorem State.setDrv_arg1 : (State.setDrv d s).arg1 = s.arg1 := rfl
@[simp] theorem State.setDrv_arg2 : (State.setDrv d s).arg2 = s.arg2 := rfl
@[simp] theorem State.setDrv_arg3 : (State.setDrv d s).arg3 = s.arg3 := rfl
@[simp] theorem State.setDrv_arg4 : (State.setDrv d s).arg4 = s.arg4 := rfl
@[simp] theorem State.setDrv_fb : (State.setDrv d s).fb = s.fb := rfl
@[simp] theorem State.setDrv_tb : (State.setDrv d s).tb = s.tb := rfl
@[simp] theorem State.setDrv_pinRst : (State.setDrv d s).pinRst = s.pinRst := rfl
@[simp] theorem State.setDrv_pinDc : (State.setDrv d s).pinDc = s.pinDc := rfl
@[simp] theorem State.setDrv_pinCs : (State.setDrv d s).pinCs = s.pinCs := rfl
@[simp] theorem State.setDrv_trace : (State.setDrv d s).trace = s.trace := rfl
@[simp] theorem State.setDrv_source : (State.setDrv d s).source = s.source := rfl
@[simp] theorem State.setDrv_hostOverlap : (State.setDrv d s).hostOverlap = s.hostOverlap := rfl
@[simp] theorem State.setDrv_refusedMark : (State.setDrv d s).refusedMark = s.refusedMark := rfl
@[simp] theorem State.setDrv_host : (State.setDrv d s).host = s.host := rfl
@[simp] theorem State.setDrv_hostData : (State.setDrv d s).hostData = s.hostData := rfl
@[simp] theorem State.setDrv_busy : (State.setDrv d s).busy = s.busy := rfl
@[simp] theorem State.setDrv_busyIn : (State.setDrv d s).busyIn = s.busyIn := rfl
@[simp] theorem State.setDrv_xfer : (State.setDrv d s).xfer = s.xfer := rfl
@[simp] theorem State.setDrv_alloc : (State.setDrv d s).alloc = s.alloc := rfl
@[simp] theorem State.setDrv_busCfg : (State.setDrv d s).busCfg = s.busCfg := rfl
@[simp] theorem State.setDrv_midReads : (State.setDrv d s).midReads = s.midReads := rfl
@[simp] theorem State.setDrv_drvSeen : (State.setDrv d s).drvSeen = s.drvSeen := rfl
@[simp] theorem State.setDrv_drvLog : (State.setDrv d s).drvLog = s.drvLog ++ [d] := rfl
end

/-! Writing RESULT -/

section
variable (w : Word) (s : State)
@[simp] theorem State.setResult_cfg : (State.setResult w s).cfg = s.cfg := rfl
@[simp] theorem State.setResult_drv : (State.setResult w s).drv = s.drv := rfl
@[simp] theorem State.setResult_allocDone : (State.setResult w s).allocDone = s.allocDone := rfl
@[simp] theorem State.setResult_busReady : (State.setResult w s).busReady = s.busReady := rfl
@[simp] theorem State.setResult_sixColor : (State.setResult w s).sixColor = s.sixColor := rfl
@[simp] theorem State.setResult_opActive : (State.setResult w s).opActive = s.opActive := rfl
@[simp] theorem State.setResult_err : (State.setResult w s).err = s.err := rfl
@[simp] theorem State.setResult_cmd : (State.setResult w s).cmd = s.cmd := rfl
@[simp] theorem State.setResult_result : (State.setResult w s).result = w := rfl
@[simp] theorem State.setResult_errinfo : (State.setResult w s).errinfo = s.errinfo := rfl
@[simp] theorem State.setResult_effopt : (State.setResult w s).effopt = s.effopt := rfl
@[simp] theorem State.setResult_arg0 : (State.setResult w s).arg0 = s.arg0 := rfl
@[simp] theorem State.setResult_arg1 : (State.setResult w s).arg1 = s.arg1 := rfl
@[simp] theorem State.setResult_arg2 : (State.setResult w s).arg2 = s.arg2 := rfl
@[simp] theorem State.setResult_arg3 : (State.setResult w s).arg3 = s.arg3 := rfl
@[simp] theorem State.setResult_arg4 : (State.setResult w s).arg4 = s.arg4 := rfl
@[simp] theorem State.setResult_fb : (State.setResult w s).fb = s.fb := rfl
@[simp] theorem State.setResult_tb : (State.setResult w s).tb = s.tb := rfl
@[simp] theorem State.setResult_pinRst : (State.setResult w s).pinRst = s.pinRst := rfl
@[simp] theorem State.setResult_pinDc : (State.setResult w s).pinDc = s.pinDc := rfl
@[simp] theorem State.setResult_pinCs : (State.setResult w s).pinCs = s.pinCs := rfl
@[simp] theorem State.setResult_trace : (State.setResult w s).trace = s.trace := rfl
@[simp] theorem State.setResult_source : (State.setResult w s).source = s.source := rfl
@[simp] theorem State.setResult_hostOverlap : (State.setResult w s).hostOverlap = s.hostOverlap := rfl
@[simp] theorem State.setResult_refusedMark : (State.setResult w s).refusedMark = s.refusedMark := rfl
@[simp] theorem State.setResult_host : (State.setResult w s).host = s.host := rfl
@[simp] theorem State.setResult_hostData : (State.setResult w s).hostData = s.hostData := rfl
@[simp] theorem State.setResult_busy : (State.setResult w s).busy = s.busy := rfl
@[simp] theorem State.setResult_busyIn : (State.setResult w s).busyIn = s.busyIn := rfl
@[simp] theorem State.setResult_xfer : (State.setResult w s).xfer = s.xfer := rfl
@[simp] theorem State.setResult_alloc : (State.setResult w s).alloc = s.alloc := rfl
@[simp] theorem State.setResult_busCfg : (State.setResult w s).busCfg = s.busCfg := rfl
@[simp] theorem State.setResult_midReads : (State.setResult w s).midReads = s.midReads := rfl
@[simp] theorem State.setResult_drvSeen : (State.setResult w s).drvSeen = s.drvSeen := rfl
@[simp] theorem State.setResult_drvLog : (State.setResult w s).drvLog = s.drvLog := rfl
end

/-! Replacing FB -/

section
variable (m : Memory) (s : State)
@[simp] theorem State.setFb_cfg : (State.setFb m s).cfg = s.cfg := rfl
@[simp] theorem State.setFb_drv : (State.setFb m s).drv = s.drv := rfl
@[simp] theorem State.setFb_allocDone : (State.setFb m s).allocDone = s.allocDone := rfl
@[simp] theorem State.setFb_busReady : (State.setFb m s).busReady = s.busReady := rfl
@[simp] theorem State.setFb_sixColor : (State.setFb m s).sixColor = s.sixColor := rfl
@[simp] theorem State.setFb_opActive : (State.setFb m s).opActive = s.opActive := rfl
@[simp] theorem State.setFb_err : (State.setFb m s).err = s.err := rfl
@[simp] theorem State.setFb_cmd : (State.setFb m s).cmd = s.cmd := rfl
@[simp] theorem State.setFb_result : (State.setFb m s).result = s.result := rfl
@[simp] theorem State.setFb_errinfo : (State.setFb m s).errinfo = s.errinfo := rfl
@[simp] theorem State.setFb_effopt : (State.setFb m s).effopt = s.effopt := rfl
@[simp] theorem State.setFb_arg0 : (State.setFb m s).arg0 = s.arg0 := rfl
@[simp] theorem State.setFb_arg1 : (State.setFb m s).arg1 = s.arg1 := rfl
@[simp] theorem State.setFb_arg2 : (State.setFb m s).arg2 = s.arg2 := rfl
@[simp] theorem State.setFb_arg3 : (State.setFb m s).arg3 = s.arg3 := rfl
@[simp] theorem State.setFb_arg4 : (State.setFb m s).arg4 = s.arg4 := rfl
@[simp] theorem State.setFb_fb : (State.setFb m s).fb = m := rfl
@[simp] theorem State.setFb_tb : (State.setFb m s).tb = s.tb := rfl
@[simp] theorem State.setFb_pinRst : (State.setFb m s).pinRst = s.pinRst := rfl
@[simp] theorem State.setFb_pinDc : (State.setFb m s).pinDc = s.pinDc := rfl
@[simp] theorem State.setFb_pinCs : (State.setFb m s).pinCs = s.pinCs := rfl
@[simp] theorem State.setFb_trace : (State.setFb m s).trace = s.trace := rfl
@[simp] theorem State.setFb_source : (State.setFb m s).source = s.source := rfl
@[simp] theorem State.setFb_hostOverlap : (State.setFb m s).hostOverlap = s.hostOverlap := rfl
@[simp] theorem State.setFb_refusedMark : (State.setFb m s).refusedMark = s.refusedMark := rfl
@[simp] theorem State.setFb_host : (State.setFb m s).host = s.host := rfl
@[simp] theorem State.setFb_hostData : (State.setFb m s).hostData = s.hostData := rfl
@[simp] theorem State.setFb_busy : (State.setFb m s).busy = s.busy := rfl
@[simp] theorem State.setFb_busyIn : (State.setFb m s).busyIn = s.busyIn := rfl
@[simp] theorem State.setFb_xfer : (State.setFb m s).xfer = s.xfer := rfl
@[simp] theorem State.setFb_alloc : (State.setFb m s).alloc = s.alloc := rfl
@[simp] theorem State.setFb_busCfg : (State.setFb m s).busCfg = s.busCfg := rfl
@[simp] theorem State.setFb_midReads : (State.setFb m s).midReads = s.midReads := rfl
@[simp] theorem State.setFb_drvSeen : (State.setFb m s).drvSeen = s.drvSeen := rfl
@[simp] theorem State.setFb_drvLog : (State.setFb m s).drvLog = s.drvLog := rfl
end

/-! Replacing TB -/

section
variable (m : Memory) (s : State)
@[simp] theorem State.setTb_cfg : (State.setTb m s).cfg = s.cfg := rfl
@[simp] theorem State.setTb_drv : (State.setTb m s).drv = s.drv := rfl
@[simp] theorem State.setTb_allocDone : (State.setTb m s).allocDone = s.allocDone := rfl
@[simp] theorem State.setTb_busReady : (State.setTb m s).busReady = s.busReady := rfl
@[simp] theorem State.setTb_sixColor : (State.setTb m s).sixColor = s.sixColor := rfl
@[simp] theorem State.setTb_opActive : (State.setTb m s).opActive = s.opActive := rfl
@[simp] theorem State.setTb_err : (State.setTb m s).err = s.err := rfl
@[simp] theorem State.setTb_cmd : (State.setTb m s).cmd = s.cmd := rfl
@[simp] theorem State.setTb_result : (State.setTb m s).result = s.result := rfl
@[simp] theorem State.setTb_errinfo : (State.setTb m s).errinfo = s.errinfo := rfl
@[simp] theorem State.setTb_effopt : (State.setTb m s).effopt = s.effopt := rfl
@[simp] theorem State.setTb_arg0 : (State.setTb m s).arg0 = s.arg0 := rfl
@[simp] theorem State.setTb_arg1 : (State.setTb m s).arg1 = s.arg1 := rfl
@[simp] theorem State.setTb_arg2 : (State.setTb m s).arg2 = s.arg2 := rfl
@[simp] theorem State.setTb_arg3 : (State.setTb m s).arg3 = s.arg3 := rfl
@[simp] theorem State.setTb_arg4 : (State.setTb m s).arg4 = s.arg4 := rfl
@[simp] theorem State.setTb_fb : (State.setTb m s).fb = s.fb := rfl
@[simp] theorem State.setTb_tb : (State.setTb m s).tb = m := rfl
@[simp] theorem State.setTb_pinRst : (State.setTb m s).pinRst = s.pinRst := rfl
@[simp] theorem State.setTb_pinDc : (State.setTb m s).pinDc = s.pinDc := rfl
@[simp] theorem State.setTb_pinCs : (State.setTb m s).pinCs = s.pinCs := rfl
@[simp] theorem State.setTb_trace : (State.setTb m s).trace = s.trace := rfl
@[simp] theorem State.setTb_source : (State.setTb m s).source = s.source := rfl
@[simp] theorem State.setTb_hostOverlap : (State.setTb m s).hostOverlap = s.hostOverlap := rfl
@[simp] theorem State.setTb_refusedMark : (State.setTb m s).refusedMark = s.refusedMark := rfl
@[simp] theorem State.setTb_host : (State.setTb m s).host = s.host := rfl
@[simp] theorem State.setTb_hostData : (State.setTb m s).hostData = s.hostData := rfl
@[simp] theorem State.setTb_busy : (State.setTb m s).busy = s.busy := rfl
@[simp] theorem State.setTb_busyIn : (State.setTb m s).busyIn = s.busyIn := rfl
@[simp] theorem State.setTb_xfer : (State.setTb m s).xfer = s.xfer := rfl
@[simp] theorem State.setTb_alloc : (State.setTb m s).alloc = s.alloc := rfl
@[simp] theorem State.setTb_busCfg : (State.setTb m s).busCfg = s.busCfg := rfl
@[simp] theorem State.setTb_midReads : (State.setTb m s).midReads = s.midReads := rfl
@[simp] theorem State.setTb_drvSeen : (State.setTb m s).drvSeen = s.drvSeen := rfl
@[simp] theorem State.setTb_drvLog : (State.setTb m s).drvLog = s.drvLog := rfl
end

/-! Writing SIX_COLOR -/

section
variable (b : Bool) (s : State)
@[simp] theorem State.setSixColor_cfg : (State.setSixColor b s).cfg = s.cfg := rfl
@[simp] theorem State.setSixColor_drv : (State.setSixColor b s).drv = s.drv := rfl
@[simp] theorem State.setSixColor_allocDone : (State.setSixColor b s).allocDone = s.allocDone := rfl
@[simp] theorem State.setSixColor_busReady : (State.setSixColor b s).busReady = s.busReady := rfl
@[simp] theorem State.setSixColor_sixColor : (State.setSixColor b s).sixColor = b := rfl
@[simp] theorem State.setSixColor_opActive : (State.setSixColor b s).opActive = s.opActive := rfl
@[simp] theorem State.setSixColor_err : (State.setSixColor b s).err = s.err := rfl
@[simp] theorem State.setSixColor_cmd : (State.setSixColor b s).cmd = s.cmd := rfl
@[simp] theorem State.setSixColor_result : (State.setSixColor b s).result = s.result := rfl
@[simp] theorem State.setSixColor_errinfo : (State.setSixColor b s).errinfo = s.errinfo := rfl
@[simp] theorem State.setSixColor_effopt : (State.setSixColor b s).effopt = s.effopt := rfl
@[simp] theorem State.setSixColor_arg0 : (State.setSixColor b s).arg0 = s.arg0 := rfl
@[simp] theorem State.setSixColor_arg1 : (State.setSixColor b s).arg1 = s.arg1 := rfl
@[simp] theorem State.setSixColor_arg2 : (State.setSixColor b s).arg2 = s.arg2 := rfl
@[simp] theorem State.setSixColor_arg3 : (State.setSixColor b s).arg3 = s.arg3 := rfl
@[simp] theorem State.setSixColor_arg4 : (State.setSixColor b s).arg4 = s.arg4 := rfl
@[simp] theorem State.setSixColor_fb : (State.setSixColor b s).fb = s.fb := rfl
@[simp] theorem State.setSixColor_tb : (State.setSixColor b s).tb = s.tb := rfl
@[simp] theorem State.setSixColor_pinRst : (State.setSixColor b s).pinRst = s.pinRst := rfl
@[simp] theorem State.setSixColor_pinDc : (State.setSixColor b s).pinDc = s.pinDc := rfl
@[simp] theorem State.setSixColor_pinCs : (State.setSixColor b s).pinCs = s.pinCs := rfl
@[simp] theorem State.setSixColor_trace : (State.setSixColor b s).trace = s.trace := rfl
@[simp] theorem State.setSixColor_source : (State.setSixColor b s).source = s.source := rfl
@[simp] theorem State.setSixColor_hostOverlap : (State.setSixColor b s).hostOverlap = s.hostOverlap := rfl
@[simp] theorem State.setSixColor_refusedMark : (State.setSixColor b s).refusedMark = s.refusedMark := rfl
@[simp] theorem State.setSixColor_host : (State.setSixColor b s).host = s.host := rfl
@[simp] theorem State.setSixColor_hostData : (State.setSixColor b s).hostData = s.hostData := rfl
@[simp] theorem State.setSixColor_busy : (State.setSixColor b s).busy = s.busy := rfl
@[simp] theorem State.setSixColor_busyIn : (State.setSixColor b s).busyIn = s.busyIn := rfl
@[simp] theorem State.setSixColor_xfer : (State.setSixColor b s).xfer = s.xfer := rfl
@[simp] theorem State.setSixColor_alloc : (State.setSixColor b s).alloc = s.alloc := rfl
@[simp] theorem State.setSixColor_busCfg : (State.setSixColor b s).busCfg = s.busCfg := rfl
@[simp] theorem State.setSixColor_midReads : (State.setSixColor b s).midReads = s.midReads := rfl
@[simp] theorem State.setSixColor_drvSeen : (State.setSixColor b s).drvSeen = s.drvSeen := rfl
@[simp] theorem State.setSixColor_drvLog : (State.setSixColor b s).drvLog = s.drvLog := rfl
end

/-! A sample of BUSY -/

section
variable (s : State)
@[simp] theorem State.tookBusy_cfg : (State.tookBusy s).cfg = s.cfg := rfl
@[simp] theorem State.tookBusy_drv : (State.tookBusy s).drv = s.drv := rfl
@[simp] theorem State.tookBusy_allocDone : (State.tookBusy s).allocDone = s.allocDone := rfl
@[simp] theorem State.tookBusy_busReady : (State.tookBusy s).busReady = s.busReady := rfl
@[simp] theorem State.tookBusy_sixColor : (State.tookBusy s).sixColor = s.sixColor := rfl
@[simp] theorem State.tookBusy_opActive : (State.tookBusy s).opActive = s.opActive := rfl
@[simp] theorem State.tookBusy_err : (State.tookBusy s).err = s.err := rfl
@[simp] theorem State.tookBusy_cmd : (State.tookBusy s).cmd = s.cmd := rfl
@[simp] theorem State.tookBusy_result : (State.tookBusy s).result = s.result := rfl
@[simp] theorem State.tookBusy_errinfo : (State.tookBusy s).errinfo = s.errinfo := rfl
@[simp] theorem State.tookBusy_effopt : (State.tookBusy s).effopt = s.effopt := rfl
@[simp] theorem State.tookBusy_arg0 : (State.tookBusy s).arg0 = s.arg0 := rfl
@[simp] theorem State.tookBusy_arg1 : (State.tookBusy s).arg1 = s.arg1 := rfl
@[simp] theorem State.tookBusy_arg2 : (State.tookBusy s).arg2 = s.arg2 := rfl
@[simp] theorem State.tookBusy_arg3 : (State.tookBusy s).arg3 = s.arg3 := rfl
@[simp] theorem State.tookBusy_arg4 : (State.tookBusy s).arg4 = s.arg4 := rfl
@[simp] theorem State.tookBusy_fb : (State.tookBusy s).fb = s.fb := rfl
@[simp] theorem State.tookBusy_tb : (State.tookBusy s).tb = s.tb := rfl
@[simp] theorem State.tookBusy_pinRst : (State.tookBusy s).pinRst = s.pinRst := rfl
@[simp] theorem State.tookBusy_pinDc : (State.tookBusy s).pinDc = s.pinDc := rfl
@[simp] theorem State.tookBusy_pinCs : (State.tookBusy s).pinCs = s.pinCs := rfl
@[simp] theorem State.tookBusy_trace : (State.tookBusy s).trace = s.trace := rfl
@[simp] theorem State.tookBusy_source : (State.tookBusy s).source = s.source := rfl
@[simp] theorem State.tookBusy_hostOverlap : (State.tookBusy s).hostOverlap = s.hostOverlap := rfl
@[simp] theorem State.tookBusy_refusedMark : (State.tookBusy s).refusedMark = s.refusedMark := rfl
@[simp] theorem State.tookBusy_host : (State.tookBusy s).host = s.host := rfl
@[simp] theorem State.tookBusy_hostData : (State.tookBusy s).hostData = s.hostData := rfl
@[simp] theorem State.tookBusy_busy : (State.tookBusy s).busy = Draws.advance s.busy := rfl
@[simp] theorem State.tookBusy_busyIn : (State.tookBusy s).busyIn = s.busyIn := rfl
@[simp] theorem State.tookBusy_xfer : (State.tookBusy s).xfer = s.xfer := rfl
@[simp] theorem State.tookBusy_alloc : (State.tookBusy s).alloc = s.alloc := rfl
@[simp] theorem State.tookBusy_busCfg : (State.tookBusy s).busCfg = s.busCfg := rfl
@[simp] theorem State.tookBusy_midReads : (State.tookBusy s).midReads = s.midReads := rfl
@[simp] theorem State.tookBusy_drvSeen : (State.tookBusy s).drvSeen = s.drvSeen := rfl
@[simp] theorem State.tookBusy_drvLog : (State.tookBusy s).drvLog = s.drvLog := rfl
end

/-! A look at BUSY_IN -/

section
variable (s : State)
@[simp] theorem State.tookBusyIn_cfg : (State.tookBusyIn s).cfg = s.cfg := rfl
@[simp] theorem State.tookBusyIn_drv : (State.tookBusyIn s).drv = s.drv := rfl
@[simp] theorem State.tookBusyIn_allocDone : (State.tookBusyIn s).allocDone = s.allocDone := rfl
@[simp] theorem State.tookBusyIn_busReady : (State.tookBusyIn s).busReady = s.busReady := rfl
@[simp] theorem State.tookBusyIn_sixColor : (State.tookBusyIn s).sixColor = s.sixColor := rfl
@[simp] theorem State.tookBusyIn_opActive : (State.tookBusyIn s).opActive = s.opActive := rfl
@[simp] theorem State.tookBusyIn_err : (State.tookBusyIn s).err = s.err := rfl
@[simp] theorem State.tookBusyIn_cmd : (State.tookBusyIn s).cmd = s.cmd := rfl
@[simp] theorem State.tookBusyIn_result : (State.tookBusyIn s).result = s.result := rfl
@[simp] theorem State.tookBusyIn_errinfo : (State.tookBusyIn s).errinfo = s.errinfo := rfl
@[simp] theorem State.tookBusyIn_effopt : (State.tookBusyIn s).effopt = s.effopt := rfl
@[simp] theorem State.tookBusyIn_arg0 : (State.tookBusyIn s).arg0 = s.arg0 := rfl
@[simp] theorem State.tookBusyIn_arg1 : (State.tookBusyIn s).arg1 = s.arg1 := rfl
@[simp] theorem State.tookBusyIn_arg2 : (State.tookBusyIn s).arg2 = s.arg2 := rfl
@[simp] theorem State.tookBusyIn_arg3 : (State.tookBusyIn s).arg3 = s.arg3 := rfl
@[simp] theorem State.tookBusyIn_arg4 : (State.tookBusyIn s).arg4 = s.arg4 := rfl
@[simp] theorem State.tookBusyIn_fb : (State.tookBusyIn s).fb = s.fb := rfl
@[simp] theorem State.tookBusyIn_tb : (State.tookBusyIn s).tb = s.tb := rfl
@[simp] theorem State.tookBusyIn_pinRst : (State.tookBusyIn s).pinRst = s.pinRst := rfl
@[simp] theorem State.tookBusyIn_pinDc : (State.tookBusyIn s).pinDc = s.pinDc := rfl
@[simp] theorem State.tookBusyIn_pinCs : (State.tookBusyIn s).pinCs = s.pinCs := rfl
@[simp] theorem State.tookBusyIn_trace : (State.tookBusyIn s).trace = s.trace := rfl
@[simp] theorem State.tookBusyIn_source : (State.tookBusyIn s).source = s.source := rfl
@[simp] theorem State.tookBusyIn_hostOverlap : (State.tookBusyIn s).hostOverlap = s.hostOverlap := rfl
@[simp] theorem State.tookBusyIn_refusedMark : (State.tookBusyIn s).refusedMark = s.refusedMark := rfl
@[simp] theorem State.tookBusyIn_host : (State.tookBusyIn s).host = s.host := rfl
@[simp] theorem State.tookBusyIn_hostData : (State.tookBusyIn s).hostData = s.hostData := rfl
@[simp] theorem State.tookBusyIn_busy : (State.tookBusyIn s).busy = s.busy := rfl
@[simp] theorem State.tookBusyIn_busyIn : (State.tookBusyIn s).busyIn = Draws.advance s.busyIn := rfl
@[simp] theorem State.tookBusyIn_xfer : (State.tookBusyIn s).xfer = s.xfer := rfl
@[simp] theorem State.tookBusyIn_alloc : (State.tookBusyIn s).alloc = s.alloc := rfl
@[simp] theorem State.tookBusyIn_busCfg : (State.tookBusyIn s).busCfg = s.busCfg := rfl
@[simp] theorem State.tookBusyIn_midReads : (State.tookBusyIn s).midReads = s.midReads := rfl
@[simp] theorem State.tookBusyIn_drvSeen : (State.tookBusyIn s).drvSeen = s.drvSeen := rfl
@[simp] theorem State.tookBusyIn_drvLog : (State.tookBusyIn s).drvLog = s.drvLog := rfl
end

/-! An answer of the allocator -/

section
variable (s : State)
@[simp] theorem State.tookAlloc_cfg : (State.tookAlloc s).cfg = s.cfg := rfl
@[simp] theorem State.tookAlloc_drv : (State.tookAlloc s).drv = s.drv := rfl
@[simp] theorem State.tookAlloc_allocDone : (State.tookAlloc s).allocDone = s.allocDone := rfl
@[simp] theorem State.tookAlloc_busReady : (State.tookAlloc s).busReady = s.busReady := rfl
@[simp] theorem State.tookAlloc_sixColor : (State.tookAlloc s).sixColor = s.sixColor := rfl
@[simp] theorem State.tookAlloc_opActive : (State.tookAlloc s).opActive = s.opActive := rfl
@[simp] theorem State.tookAlloc_err : (State.tookAlloc s).err = s.err := rfl
@[simp] theorem State.tookAlloc_cmd : (State.tookAlloc s).cmd = s.cmd := rfl
@[simp] theorem State.tookAlloc_result : (State.tookAlloc s).result = s.result := rfl
@[simp] theorem State.tookAlloc_errinfo : (State.tookAlloc s).errinfo = s.errinfo := rfl
@[simp] theorem State.tookAlloc_effopt : (State.tookAlloc s).effopt = s.effopt := rfl
@[simp] theorem State.tookAlloc_arg0 : (State.tookAlloc s).arg0 = s.arg0 := rfl
@[simp] theorem State.tookAlloc_arg1 : (State.tookAlloc s).arg1 = s.arg1 := rfl
@[simp] theorem State.tookAlloc_arg2 : (State.tookAlloc s).arg2 = s.arg2 := rfl
@[simp] theorem State.tookAlloc_arg3 : (State.tookAlloc s).arg3 = s.arg3 := rfl
@[simp] theorem State.tookAlloc_arg4 : (State.tookAlloc s).arg4 = s.arg4 := rfl
@[simp] theorem State.tookAlloc_fb : (State.tookAlloc s).fb = s.fb := rfl
@[simp] theorem State.tookAlloc_tb : (State.tookAlloc s).tb = s.tb := rfl
@[simp] theorem State.tookAlloc_pinRst : (State.tookAlloc s).pinRst = s.pinRst := rfl
@[simp] theorem State.tookAlloc_pinDc : (State.tookAlloc s).pinDc = s.pinDc := rfl
@[simp] theorem State.tookAlloc_pinCs : (State.tookAlloc s).pinCs = s.pinCs := rfl
@[simp] theorem State.tookAlloc_trace : (State.tookAlloc s).trace = s.trace := rfl
@[simp] theorem State.tookAlloc_source : (State.tookAlloc s).source = s.source := rfl
@[simp] theorem State.tookAlloc_hostOverlap : (State.tookAlloc s).hostOverlap = s.hostOverlap := rfl
@[simp] theorem State.tookAlloc_refusedMark : (State.tookAlloc s).refusedMark = s.refusedMark := rfl
@[simp] theorem State.tookAlloc_host : (State.tookAlloc s).host = s.host := rfl
@[simp] theorem State.tookAlloc_hostData : (State.tookAlloc s).hostData = s.hostData := rfl
@[simp] theorem State.tookAlloc_busy : (State.tookAlloc s).busy = s.busy := rfl
@[simp] theorem State.tookAlloc_busyIn : (State.tookAlloc s).busyIn = s.busyIn := rfl
@[simp] theorem State.tookAlloc_xfer : (State.tookAlloc s).xfer = s.xfer := rfl
@[simp] theorem State.tookAlloc_alloc : (State.tookAlloc s).alloc = Draws.advance s.alloc := rfl
@[simp] theorem State.tookAlloc_busCfg : (State.tookAlloc s).busCfg = s.busCfg := rfl
@[simp] theorem State.tookAlloc_midReads : (State.tookAlloc s).midReads = s.midReads := rfl
@[simp] theorem State.tookAlloc_drvSeen : (State.tookAlloc s).drvSeen = s.drvSeen := rfl
@[simp] theorem State.tookAlloc_drvLog : (State.tookAlloc s).drvLog = s.drvLog := rfl
end

/-! An answer of the bus configuration -/

section
variable (s : State)
@[simp] theorem State.tookBusCfg_cfg : (State.tookBusCfg s).cfg = s.cfg := rfl
@[simp] theorem State.tookBusCfg_drv : (State.tookBusCfg s).drv = s.drv := rfl
@[simp] theorem State.tookBusCfg_allocDone : (State.tookBusCfg s).allocDone = s.allocDone := rfl
@[simp] theorem State.tookBusCfg_busReady : (State.tookBusCfg s).busReady = s.busReady := rfl
@[simp] theorem State.tookBusCfg_sixColor : (State.tookBusCfg s).sixColor = s.sixColor := rfl
@[simp] theorem State.tookBusCfg_opActive : (State.tookBusCfg s).opActive = s.opActive := rfl
@[simp] theorem State.tookBusCfg_err : (State.tookBusCfg s).err = s.err := rfl
@[simp] theorem State.tookBusCfg_cmd : (State.tookBusCfg s).cmd = s.cmd := rfl
@[simp] theorem State.tookBusCfg_result : (State.tookBusCfg s).result = s.result := rfl
@[simp] theorem State.tookBusCfg_errinfo : (State.tookBusCfg s).errinfo = s.errinfo := rfl
@[simp] theorem State.tookBusCfg_effopt : (State.tookBusCfg s).effopt = s.effopt := rfl
@[simp] theorem State.tookBusCfg_arg0 : (State.tookBusCfg s).arg0 = s.arg0 := rfl
@[simp] theorem State.tookBusCfg_arg1 : (State.tookBusCfg s).arg1 = s.arg1 := rfl
@[simp] theorem State.tookBusCfg_arg2 : (State.tookBusCfg s).arg2 = s.arg2 := rfl
@[simp] theorem State.tookBusCfg_arg3 : (State.tookBusCfg s).arg3 = s.arg3 := rfl
@[simp] theorem State.tookBusCfg_arg4 : (State.tookBusCfg s).arg4 = s.arg4 := rfl
@[simp] theorem State.tookBusCfg_fb : (State.tookBusCfg s).fb = s.fb := rfl
@[simp] theorem State.tookBusCfg_tb : (State.tookBusCfg s).tb = s.tb := rfl
@[simp] theorem State.tookBusCfg_pinRst : (State.tookBusCfg s).pinRst = s.pinRst := rfl
@[simp] theorem State.tookBusCfg_pinDc : (State.tookBusCfg s).pinDc = s.pinDc := rfl
@[simp] theorem State.tookBusCfg_pinCs : (State.tookBusCfg s).pinCs = s.pinCs := rfl
@[simp] theorem State.tookBusCfg_trace : (State.tookBusCfg s).trace = s.trace := rfl
@[simp] theorem State.tookBusCfg_source : (State.tookBusCfg s).source = s.source := rfl
@[simp] theorem State.tookBusCfg_hostOverlap : (State.tookBusCfg s).hostOverlap = s.hostOverlap := rfl
@[simp] theorem State.tookBusCfg_refusedMark : (State.tookBusCfg s).refusedMark = s.refusedMark := rfl
@[simp] theorem State.tookBusCfg_host : (State.tookBusCfg s).host = s.host := rfl
@[simp] theorem State.tookBusCfg_hostData : (State.tookBusCfg s).hostData = s.hostData := rfl
@[simp] theorem State.tookBusCfg_busy : (State.tookBusCfg s).busy = s.busy := rfl
@[simp] theorem State.tookBusCfg_busyIn : (State.tookBusCfg s).busyIn = s.busyIn := rfl
@[simp] theorem State.tookBusCfg_xfer : (State.tookBusCfg s).xfer = s.xfer := rfl
@[simp] theorem State.tookBusCfg_alloc : (State.tookBusCfg s).alloc = s.alloc := rfl
@[simp] theorem State.tookBusCfg_busCfg : (State.tookBusCfg s).busCfg = Draws.advance s.busCfg := rfl
@[simp] theorem State.tookBusCfg_midReads : (State.tookBusCfg s).midReads = s.midReads := rfl
@[simp] theorem State.tookBusCfg_drvSeen : (State.tookBusCfg s).drvSeen = s.drvSeen := rfl
@[simp] theorem State.tookBusCfg_drvLog : (State.tookBusCfg s).drvLog = s.drvLog := rfl
end

/-! A successful allocation -/

section
variable (s : State)
@[simp] theorem allocated_cfg : (allocated s).cfg = s.cfg := rfl
@[simp] theorem allocated_drv : (allocated s).drv = s.drv := rfl
@[simp] theorem allocated_allocDone : (allocated s).allocDone = true := rfl
@[simp] theorem allocated_busReady : (allocated s).busReady = s.busReady := rfl
@[simp] theorem allocated_sixColor : (allocated s).sixColor = s.sixColor := rfl
@[simp] theorem allocated_opActive : (allocated s).opActive = s.opActive := rfl
@[simp] theorem allocated_err : (allocated s).err = s.err := rfl
@[simp] theorem allocated_cmd : (allocated s).cmd = s.cmd := rfl
@[simp] theorem allocated_result : (allocated s).result = s.result := rfl
@[simp] theorem allocated_errinfo : (allocated s).errinfo = s.errinfo := rfl
@[simp] theorem allocated_effopt : (allocated s).effopt = s.effopt := rfl
@[simp] theorem allocated_arg0 : (allocated s).arg0 = s.arg0 := rfl
@[simp] theorem allocated_arg1 : (allocated s).arg1 = s.arg1 := rfl
@[simp] theorem allocated_arg2 : (allocated s).arg2 = s.arg2 := rfl
@[simp] theorem allocated_arg3 : (allocated s).arg3 = s.arg3 := rfl
@[simp] theorem allocated_arg4 : (allocated s).arg4 = s.arg4 := rfl
@[simp] theorem allocated_fb : (allocated s).fb = [] := rfl
@[simp] theorem allocated_tb : (allocated s).tb = [] := rfl
@[simp] theorem allocated_pinRst : (allocated s).pinRst = s.pinRst := rfl
@[simp] theorem allocated_pinDc : (allocated s).pinDc = s.pinDc := rfl
@[simp] theorem allocated_pinCs : (allocated s).pinCs = s.pinCs := rfl
@[simp] theorem allocated_trace : (allocated s).trace = s.trace := rfl
@[simp] theorem allocated_source : (allocated s).source = s.source := rfl
@[simp] theorem allocated_hostOverlap : (allocated s).hostOverlap = s.hostOverlap := rfl
@[simp] theorem allocated_refusedMark : (allocated s).refusedMark = s.refusedMark := rfl
@[simp] theorem allocated_host : (allocated s).host = s.host := rfl
@[simp] theorem allocated_hostData : (allocated s).hostData = s.hostData := rfl
@[simp] theorem allocated_busy : (allocated s).busy = s.busy := rfl
@[simp] theorem allocated_busyIn : (allocated s).busyIn = s.busyIn := rfl
@[simp] theorem allocated_xfer : (allocated s).xfer = s.xfer := rfl
@[simp] theorem allocated_alloc : (allocated s).alloc = s.alloc := rfl
@[simp] theorem allocated_busCfg : (allocated s).busCfg = s.busCfg := rfl
@[simp] theorem allocated_midReads : (allocated s).midReads = s.midReads := rfl
@[simp] theorem allocated_drvSeen : (allocated s).drvSeen = s.drvSeen := rfl
@[simp] theorem allocated_drvLog : (allocated s).drvLog = s.drvLog := rfl
end

/-! The driver object destroyed -/

section
variable (s : State)
@[simp] theorem closeDriver_cfg : (closeDriver s).cfg = s.cfg := rfl
@[simp] theorem closeDriver_drv : (closeDriver s).drv = .closed := rfl
@[simp] theorem closeDriver_allocDone : (closeDriver s).allocDone = false := rfl
@[simp] theorem closeDriver_busReady : (closeDriver s).busReady = false := rfl
@[simp] theorem closeDriver_sixColor : (closeDriver s).sixColor = s.sixColor := rfl
@[simp] theorem closeDriver_opActive : (closeDriver s).opActive = s.opActive := rfl
@[simp] theorem closeDriver_err : (closeDriver s).err = s.err := rfl
@[simp] theorem closeDriver_cmd : (closeDriver s).cmd = s.cmd := rfl
@[simp] theorem closeDriver_result : (closeDriver s).result = s.result := rfl
@[simp] theorem closeDriver_errinfo : (closeDriver s).errinfo = s.errinfo := rfl
@[simp] theorem closeDriver_effopt : (closeDriver s).effopt = s.effopt := rfl
@[simp] theorem closeDriver_arg0 : (closeDriver s).arg0 = s.arg0 := rfl
@[simp] theorem closeDriver_arg1 : (closeDriver s).arg1 = s.arg1 := rfl
@[simp] theorem closeDriver_arg2 : (closeDriver s).arg2 = s.arg2 := rfl
@[simp] theorem closeDriver_arg3 : (closeDriver s).arg3 = s.arg3 := rfl
@[simp] theorem closeDriver_arg4 : (closeDriver s).arg4 = s.arg4 := rfl
@[simp] theorem closeDriver_fb : (closeDriver s).fb = [] := rfl
@[simp] theorem closeDriver_tb : (closeDriver s).tb = [] := rfl
@[simp] theorem closeDriver_pinRst : (closeDriver s).pinRst = none := rfl
@[simp] theorem closeDriver_pinDc : (closeDriver s).pinDc = none := rfl
@[simp] theorem closeDriver_pinCs : (closeDriver s).pinCs = none := rfl
@[simp] theorem closeDriver_trace : (closeDriver s).trace = s.trace := rfl
@[simp] theorem closeDriver_source : (closeDriver s).source = s.source := rfl
@[simp] theorem closeDriver_hostOverlap : (closeDriver s).hostOverlap = s.hostOverlap := rfl
@[simp] theorem closeDriver_refusedMark : (closeDriver s).refusedMark = s.refusedMark := rfl
@[simp] theorem closeDriver_host : (closeDriver s).host = s.host := rfl
@[simp] theorem closeDriver_hostData : (closeDriver s).hostData = s.hostData := rfl
@[simp] theorem closeDriver_busy : (closeDriver s).busy = s.busy := rfl
@[simp] theorem closeDriver_busyIn : (closeDriver s).busyIn = s.busyIn := rfl
@[simp] theorem closeDriver_xfer : (closeDriver s).xfer = s.xfer := rfl
@[simp] theorem closeDriver_alloc : (closeDriver s).alloc = s.alloc := rfl
@[simp] theorem closeDriver_busCfg : (closeDriver s).busCfg = s.busCfg := rfl
@[simp] theorem closeDriver_midReads : (closeDriver s).midReads = s.midReads := rfl
@[simp] theorem closeDriver_drvSeen : (closeDriver s).drvSeen = s.drvSeen := rfl
@[simp] theorem closeDriver_drvLog : (closeDriver s).drvLog = s.drvLog ++ [.closed] := rfl
end

/-! Completing an operation -/

section
variable (s : State)
@[simp] theorem complete_cfg : (complete s).cfg = s.cfg := rfl
@[simp] theorem complete_drv : (complete s).drv = s.drv := rfl
@[simp] theorem complete_allocDone : (complete s).allocDone = s.allocDone := rfl
@[simp] theorem complete_busReady : (complete s).busReady = s.busReady := rfl
@[simp] theorem complete_sixColor : (complete s).sixColor = s.sixColor := rfl
@[simp] theorem complete_opActive : (complete s).opActive = false := rfl
@[simp] theorem complete_err : (complete s).err = .ok := rfl
@[simp] theorem complete_cmd : (complete s).cmd = s.cmd := rfl
@[simp] theorem complete_result : (complete s).result = s.result := rfl
@[simp] theorem complete_errinfo : (complete s).errinfo = s.errinfo := rfl
@[simp] theorem complete_effopt : (complete s).effopt = s.effopt := rfl
@[simp] theorem complete_arg0 : (complete s).arg0 = s.arg0 := rfl
@[simp] theorem complete_arg1 : (complete s).arg1 = s.arg1 := rfl
@[simp] theorem complete_arg2 : (complete s).arg2 = s.arg2 := rfl
@[simp] theorem complete_arg3 : (complete s).arg3 = s.arg3 := rfl
@[simp] theorem complete_arg4 : (complete s).arg4 = s.arg4 := rfl
@[simp] theorem complete_fb : (complete s).fb = s.fb := rfl
@[simp] theorem complete_tb : (complete s).tb = s.tb := rfl
@[simp] theorem complete_pinRst : (complete s).pinRst = s.pinRst := rfl
@[simp] theorem complete_pinDc : (complete s).pinDc = s.pinDc := rfl
@[simp] theorem complete_pinCs : (complete s).pinCs = s.pinCs := rfl
@[simp] theorem complete_trace : (complete s).trace = s.trace := rfl
@[simp] theorem complete_source : (complete s).source = s.source := rfl
@[simp] theorem complete_hostOverlap : (complete s).hostOverlap = s.hostOverlap := rfl
@[simp] theorem complete_refusedMark : (complete s).refusedMark = s.refusedMark := rfl
@[simp] theorem complete_host : (complete s).host = s.host := rfl
@[simp] theorem complete_hostData : (complete s).hostData = s.hostData := rfl
@[simp] theorem complete_busy : (complete s).busy = s.busy := rfl
@[simp] theorem complete_busyIn : (complete s).busyIn = s.busyIn := rfl
@[simp] theorem complete_xfer : (complete s).xfer = s.xfer := rfl
@[simp] theorem complete_alloc : (complete s).alloc = s.alloc := rfl
@[simp] theorem complete_busCfg : (complete s).busCfg = s.busCfg := rfl
@[simp] theorem complete_midReads : (complete s).midReads = s.midReads := rfl
@[simp] theorem complete_drvSeen : (complete s).drvSeen = s.drvSeen := rfl
@[simp] theorem complete_drvLog : (complete s).drvLog = s.drvLog := rfl
end

/-! Raising an error -/

section
variable (e : OpError) (s : State)
@[simp] theorem raiseError_cfg : (raiseError e s).cfg = s.cfg := rfl
@[simp] theorem raiseError_drv : (raiseError e s).drv = s.drv := rfl
@[simp] theorem raiseError_allocDone : (raiseError e s).allocDone = s.allocDone := rfl
@[simp] theorem raiseError_busReady : (raiseError e s).busReady = s.busReady := rfl
@[simp] theorem raiseError_sixColor : (raiseError e s).sixColor = s.sixColor := rfl
@[simp] theorem raiseError_opActive : (raiseError e s).opActive = false := rfl
@[simp] theorem raiseError_err : (raiseError e s).err = e.kind := rfl
@[simp] theorem raiseError_cmd : (raiseError e s).cmd = s.cmd := rfl
@[simp] theorem raiseError_result : (raiseError e s).result = s.result := rfl
@[simp] theorem raiseError_errinfo : (raiseError e s).errinfo = errinfoWord e.stage e.step := rfl
@[simp] theorem raiseError_effopt : (raiseError e s).effopt = s.effopt := rfl
@[simp] theorem raiseError_arg0 : (raiseError e s).arg0 = s.arg0 := rfl
@[simp] theorem raiseError_arg1 : (raiseError e s).arg1 = s.arg1 := rfl
@[simp] theorem raiseError_arg2 : (raiseError e s).arg2 = s.arg2 := rfl
@[simp] theorem raiseError_arg3 : (raiseError e s).arg3 = s.arg3 := rfl
@[simp] theorem raiseError_arg4 : (raiseError e s).arg4 = s.arg4 := rfl
@[simp] theorem raiseError_fb : (raiseError e s).fb = s.fb := rfl
@[simp] theorem raiseError_tb : (raiseError e s).tb = s.tb := rfl
@[simp] theorem raiseError_pinRst : (raiseError e s).pinRst = s.pinRst := rfl
@[simp] theorem raiseError_pinDc : (raiseError e s).pinDc = s.pinDc := rfl
@[simp] theorem raiseError_pinCs : (raiseError e s).pinCs = s.pinCs := rfl
@[simp] theorem raiseError_trace : (raiseError e s).trace = s.trace := rfl
@[simp] theorem raiseError_source : (raiseError e s).source = s.source := rfl
@[simp] theorem raiseError_hostOverlap : (raiseError e s).hostOverlap = s.hostOverlap := rfl
@[simp] theorem raiseError_refusedMark : (raiseError e s).refusedMark = s.refusedMark := rfl
@[simp] theorem raiseError_host : (raiseError e s).host = s.host := rfl
@[simp] theorem raiseError_hostData : (raiseError e s).hostData = s.hostData := rfl
@[simp] theorem raiseError_busy : (raiseError e s).busy = s.busy := rfl
@[simp] theorem raiseError_busyIn : (raiseError e s).busyIn = s.busyIn := rfl
@[simp] theorem raiseError_xfer : (raiseError e s).xfer = s.xfer := rfl
@[simp] theorem raiseError_alloc : (raiseError e s).alloc = s.alloc := rfl
@[simp] theorem raiseError_busCfg : (raiseError e s).busCfg = s.busCfg := rfl
@[simp] theorem raiseError_midReads : (raiseError e s).midReads = s.midReads := rfl
@[simp] theorem raiseError_drvSeen : (raiseError e s).drvSeen = s.drvSeen := rfl
@[simp] theorem raiseError_drvLog : (raiseError e s).drvLog = s.drvLog := rfl
end

/-! Driving a line -/

section
variable (p : Pin) (v : Level) (s : State)
@[simp] theorem State.setPin_cfg : (State.setPin p v s).cfg = s.cfg := by cases p <;> rfl
@[simp] theorem State.setPin_drv : (State.setPin p v s).drv = s.drv := by cases p <;> rfl
@[simp] theorem State.setPin_allocDone : (State.setPin p v s).allocDone = s.allocDone := by cases p <;> rfl
@[simp] theorem State.setPin_busReady : (State.setPin p v s).busReady = s.busReady := by cases p <;> rfl
@[simp] theorem State.setPin_sixColor : (State.setPin p v s).sixColor = s.sixColor := by cases p <;> rfl
@[simp] theorem State.setPin_opActive : (State.setPin p v s).opActive = s.opActive := by cases p <;> rfl
@[simp] theorem State.setPin_err : (State.setPin p v s).err = s.err := by cases p <;> rfl
@[simp] theorem State.setPin_cmd : (State.setPin p v s).cmd = s.cmd := by cases p <;> rfl
@[simp] theorem State.setPin_result : (State.setPin p v s).result = s.result := by cases p <;> rfl
@[simp] theorem State.setPin_errinfo : (State.setPin p v s).errinfo = s.errinfo := by cases p <;> rfl
@[simp] theorem State.setPin_effopt : (State.setPin p v s).effopt = s.effopt := by cases p <;> rfl
@[simp] theorem State.setPin_arg0 : (State.setPin p v s).arg0 = s.arg0 := by cases p <;> rfl
@[simp] theorem State.setPin_arg1 : (State.setPin p v s).arg1 = s.arg1 := by cases p <;> rfl
@[simp] theorem State.setPin_arg2 : (State.setPin p v s).arg2 = s.arg2 := by cases p <;> rfl
@[simp] theorem State.setPin_arg3 : (State.setPin p v s).arg3 = s.arg3 := by cases p <;> rfl
@[simp] theorem State.setPin_arg4 : (State.setPin p v s).arg4 = s.arg4 := by cases p <;> rfl
@[simp] theorem State.setPin_fb : (State.setPin p v s).fb = s.fb := by cases p <;> rfl
@[simp] theorem State.setPin_tb : (State.setPin p v s).tb = s.tb := by cases p <;> rfl
@[simp] theorem State.setPin_pinRst : (State.setPin p v s).pinRst = if p = .rst then some v else s.pinRst := by cases p <;> rfl
@[simp] theorem State.setPin_pinDc : (State.setPin p v s).pinDc = if p = .dc then some v else s.pinDc := by cases p <;> rfl
@[simp] theorem State.setPin_pinCs : (State.setPin p v s).pinCs = if p = .cs then some v else s.pinCs := by cases p <;> rfl
@[simp] theorem State.setPin_trace : (State.setPin p v s).trace = s.trace ++ [Event.pin p v] := by cases p <;> rfl
@[simp] theorem State.setPin_source : (State.setPin p v s).source = s.source := by cases p <;> rfl
@[simp] theorem State.setPin_hostOverlap : (State.setPin p v s).hostOverlap = s.hostOverlap := by cases p <;> rfl
@[simp] theorem State.setPin_refusedMark : (State.setPin p v s).refusedMark = s.refusedMark := by cases p <;> rfl
@[simp] theorem State.setPin_host : (State.setPin p v s).host = s.host := by cases p <;> rfl
@[simp] theorem State.setPin_hostData : (State.setPin p v s).hostData = s.hostData := by cases p <;> rfl
@[simp] theorem State.setPin_busy : (State.setPin p v s).busy = s.busy := by cases p <;> rfl
@[simp] theorem State.setPin_busyIn : (State.setPin p v s).busyIn = s.busyIn := by cases p <;> rfl
@[simp] theorem State.setPin_xfer : (State.setPin p v s).xfer = s.xfer := by cases p <;> rfl
@[simp] theorem State.setPin_alloc : (State.setPin p v s).alloc = s.alloc := by cases p <;> rfl
@[simp] theorem State.setPin_busCfg : (State.setPin p v s).busCfg = s.busCfg := by cases p <;> rfl
@[simp] theorem State.setPin_midReads : (State.setPin p v s).midReads = s.midReads := by cases p <;> rfl
@[simp] theorem State.setPin_drvSeen : (State.setPin p v s).drvSeen = s.drvSeen := by cases p <;> rfl
@[simp] theorem State.setPin_drvLog : (State.setPin p v s).drvLog = s.drvLog := by cases p <;> rfl
end

/-! A successful bus configuration -/

section
variable (s : State)
@[simp] theorem busConfigured_cfg : (busConfigured s).cfg = s.cfg := by simp [busConfigured]
@[simp] theorem busConfigured_drv : (busConfigured s).drv = s.drv := by simp [busConfigured]
@[simp] theorem busConfigured_allocDone : (busConfigured s).allocDone = s.allocDone := by simp [busConfigured]
@[simp] theorem busConfigured_busReady : (busConfigured s).busReady = true := rfl
@[simp] theorem busConfigured_sixColor : (busConfigured s).sixColor = s.sixColor := by simp [busConfigured]
@[simp] theorem busConfigured_opActive : (busConfigured s).opActive = s.opActive := by simp [busConfigured]
@[simp] theorem busConfigured_err : (busConfigured s).err = s.err := by simp [busConfigured]
@[simp] theorem busConfigured_cmd : (busConfigured s).cmd = s.cmd := by simp [busConfigured]
@[simp] theorem busConfigured_result : (busConfigured s).result = s.result := by simp [busConfigured]
@[simp] theorem busConfigured_errinfo : (busConfigured s).errinfo = s.errinfo := by simp [busConfigured]
@[simp] theorem busConfigured_effopt : (busConfigured s).effopt = s.effopt := by simp [busConfigured]
@[simp] theorem busConfigured_arg0 : (busConfigured s).arg0 = s.arg0 := by simp [busConfigured]
@[simp] theorem busConfigured_arg1 : (busConfigured s).arg1 = s.arg1 := by simp [busConfigured]
@[simp] theorem busConfigured_arg2 : (busConfigured s).arg2 = s.arg2 := by simp [busConfigured]
@[simp] theorem busConfigured_arg3 : (busConfigured s).arg3 = s.arg3 := by simp [busConfigured]
@[simp] theorem busConfigured_arg4 : (busConfigured s).arg4 = s.arg4 := by simp [busConfigured]
@[simp] theorem busConfigured_fb : (busConfigured s).fb = s.fb := by simp [busConfigured]
@[simp] theorem busConfigured_tb : (busConfigured s).tb = s.tb := by simp [busConfigured]
@[simp] theorem busConfigured_pinRst : (busConfigured s).pinRst = some true := by simp [busConfigured]
@[simp] theorem busConfigured_pinDc : (busConfigured s).pinDc = some (dcData s) := by simp [busConfigured]
@[simp] theorem busConfigured_pinCs : (busConfigured s).pinCs = some true := by simp [busConfigured]
@[simp] theorem busConfigured_trace : (busConfigured s).trace = s.trace ++ [.pin .cs true, .pin .rst true, .pin .dc (dcData s)] :=
  by simp [busConfigured]
@[simp] theorem busConfigured_source : (busConfigured s).source = s.source := by simp [busConfigured]
@[simp] theorem busConfigured_hostOverlap : (busConfigured s).hostOverlap = s.hostOverlap := by simp [busConfigured]
@[simp] theorem busConfigured_refusedMark : (busConfigured s).refusedMark = s.refusedMark := by simp [busConfigured]
@[simp] theorem busConfigured_host : (busConfigured s).host = s.host := by simp [busConfigured]
@[simp] theorem busConfigured_hostData : (busConfigured s).hostData = s.hostData := by simp [busConfigured]
@[simp] theorem busConfigured_busy : (busConfigured s).busy = s.busy := by simp [busConfigured]
@[simp] theorem busConfigured_busyIn : (busConfigured s).busyIn = s.busyIn := by simp [busConfigured]
@[simp] theorem busConfigured_xfer : (busConfigured s).xfer = s.xfer := by simp [busConfigured]
@[simp] theorem busConfigured_alloc : (busConfigured s).alloc = s.alloc := by simp [busConfigured]
@[simp] theorem busConfigured_busCfg : (busConfigured s).busCfg = s.busCfg := by simp [busConfigured]
@[simp] theorem busConfigured_midReads : (busConfigured s).midReads = s.midReads := by simp [busConfigured]
@[simp] theorem busConfigured_drvSeen : (busConfigured s).drvSeen = s.drvSeen := by simp [busConfigured]
@[simp] theorem busConfigured_drvLog : (busConfigured s).drvLog = s.drvLog := by simp [busConfigured]
end

end Sys2Proof.Machine
end

