-- ==== Sys2Proof/Laws/Memory.lean ====
section
/-! SUPPORT. The laws of the pixel buffers: what a write leaves, that every operation keeps the canonical form, and how an image and a
buffer correspond. -/

namespace Sys2Proof.Machine

open Sys2Proof

/-! ## One byte -/

theorem Memory.lookup_write (m : Memory) (a b : Nat) (v : Byte) :
    Memory.lookup (Memory.write m a v) b = if b = a then some v else Memory.lookup m b := by
  induction m with
  | nil => simp [Memory.write, Memory.lookup]
  | cons c rest ih =>
    obtain ⟨d, w⟩ := c
    simp only [Memory.write]
    split_ifs with h1 h2 <;> simp only [Memory.lookup, ih] <;> split_ifs <;> first | rfl | omega

theorem Memory.read_write (fresh : Nat → Byte) (m : Memory) (a b : Nat) (v : Byte) :
    Memory.read fresh (Memory.write m a v) b = if b = a then v else Memory.read fresh m b := by
  unfold Memory.read
  rw [Memory.lookup_write]
  split_ifs <;> rfl

/-! ## The canonical form -/

theorem Memory.wfFrom_cons (a b : Nat) (v : Byte) (m : Memory) :
    Memory.wfFrom a ((b, v) :: m) = true ↔ a ≤ b ∧ b < 192000 ∧ Memory.wfFrom (b + 1) m = true := by
  simp [Memory.wfFrom, and_assoc]

theorem Memory.wfFrom_mono {a b : Nat} {m : Memory} (h : Memory.wfFrom b m = true) (hab : a ≤ b) :
    Memory.wfFrom a m = true := by
  cases m with
  | nil => rfl
  | cons c rest =>
    obtain ⟨d, w⟩ := c
    rw [Memory.wfFrom_cons] at h ⊢
    exact ⟨by omega, h.2⟩

theorem Memory.wfFrom_write {k : Nat} {m : Memory} (h : Memory.wfFrom k m = true) {a : Nat} (ha : a < 192000) (hk : k ≤ a)
    (v : Byte) : Memory.wfFrom k (Memory.write m a v) = true := by
  induction m generalizing k with
  | nil => simp [Memory.write, Memory.wfFrom, ha, hk]
  | cons c rest ih =>
    obtain ⟨d, w⟩ := c
    rw [Memory.wfFrom_cons] at h
    simp only [Memory.write]
    split_ifs with h1 h2
    · simp only [Memory.wfFrom_cons]
      exact ⟨hk, ha, by omega, h.2⟩
    · subst h2
      rw [Memory.wfFrom_cons]
      exact ⟨hk, ha, h.2.2⟩
    · rw [Memory.wfFrom_cons]
      exact ⟨h.1, h.2.1, ih h.2.2 (by omega)⟩

/-- A write inside the buffer keeps the canonical form. -/
theorem Memory.wf_write {m : Memory} (h : Memory.wf m = true) {a : Nat} (ha : a < 192000) (v : Byte) :
    Memory.wf (Memory.write m a v) = true :=
  Memory.wfFrom_write h ha (Nat.zero_le a) v

theorem pixelAddr_lt {x y : Nat} (hx : x ≤ 799) (hy : y ≤ 479) : pixelAddr x y < 192000 := by
  unfold pixelAddr
  omega

/-- A nibble write at a pixel of the panel keeps the canonical form. -/
theorem Memory.wf_setNib {m : Memory} (h : Memory.wf m = true) (fresh : Nat → Byte) {x y : Nat} (hx : x ≤ 799) (hy : y ≤ 479)
    (c : Nibble) : Memory.wf (Memory.setNib fresh m x y c) = true :=
  Memory.wf_write h (pixelAddr_lt hx hy) _

theorem Memory.wfFrom_cellsFrom (l : List Byte) (a : Nat) (h : a + l.length ≤ 192000) :
    Memory.wfFrom a (Memory.cellsFrom a l) = true := by
  induction l generalizing a with
  | nil => rfl
  | cons v rest ih =>
    simp only [List.length_cons] at h
    rw [Memory.cellsFrom, Memory.wfFrom_cons]
    exact ⟨le_refl a, by omega, ih (a + 1) (by omega)⟩

/-- A buffer made of an image is in canonical form. -/
theorem Memory.wf_ofImage {img : Image} (h : img.length ≤ 192000) : Memory.wf (Memory.ofImage img) = true :=
  Memory.wfFrom_cellsFrom img 0 (by omega)

/-! ## Images -/

@[simp] theorem Memory.length_cellsFrom (l : List Byte) (a : Nat) : (Memory.cellsFrom a l).length = l.length := by
  induction l generalizing a with
  | nil => rfl
  | cons v rest ih => simp [Memory.cellsFrom, ih]

@[simp] theorem Memory.length_ofImage (img : Image) : (Memory.ofImage img).length = img.length :=
  Memory.length_cellsFrom img 0

@[simp] theorem Memory.length_readFrom (fresh : Nat → Byte) (n a : Nat) (m : Memory) :
    (Memory.readFrom fresh n a m).length = n := by
  induction n generalizing a m with
  | zero => rfl
  | succ n ih =>
    cases m with
    | nil => simp [Memory.readFrom, ih]
    | cons c rest =>
      obtain ⟨b, v⟩ := c
      simp only [Memory.readFrom]
      split_ifs <;> simp [ih]

@[simp] theorem Memory.length_image (fresh : Nat → Byte) (m : Memory) : (Memory.image fresh m).length = 192000 :=
  Memory.length_readFrom fresh 192000 0 m

theorem Memory.lookup_eq_none_of_lt {a b : Nat} {m : Memory} (h : Memory.wfFrom b m = true) (hab : a < b) :
    Memory.lookup m a = none := by
  induction m generalizing b with
  | nil => rfl
  | cons c rest ih =>
    obtain ⟨d, w⟩ := c
    rw [Memory.wfFrom_cons] at h
    rw [Memory.lookup, if_neg (by omega)]
    exact ih h.2.2 (by omega)

theorem Memory.getElem?_readFrom (fresh : Nat → Byte) (n a : Nat) (m : Memory) (h : Memory.wfFrom a m = true) (i : Nat)
    (hi : i < n) : (Memory.readFrom fresh n a m)[i]? = some (Memory.read fresh m (a + i)) := by
  induction n generalizing a m i with
  | zero => omega
  | succ n ih =>
    cases m with
    | nil =>
      cases i with
      | zero => simp [Memory.readFrom, Memory.read, Memory.lookup]
      | succ i =>
        rw [Memory.readFrom, List.getElem?_cons_succ, ih (a + 1) [] rfl i (by omega)]
        simp [Memory.read, Memory.lookup, show a + 1 + i = a + (i + 1) by omega]
    | cons c rest =>
      obtain ⟨b, v⟩ := c
      rw [Memory.wfFrom_cons] at h
      rw [Memory.readFrom]
      split_ifs with hab
      · subst hab
        cases i with
        | zero => simp [Memory.read, Memory.lookup]
        | succ i =>
          rw [List.getElem?_cons_succ, ih (a + 1) rest h.2.2 i (by omega)]
          have e : a + 1 + i = a + (i + 1) := by omega
          rw [e, Memory.read, Memory.read, Memory.lookup, if_neg (by omega)]
      · cases i with
        | zero =>
          have : Memory.lookup ((b, v) :: rest) a = none :=
            Memory.lookup_eq_none_of_lt (b := a + 1) ((Memory.wfFrom_cons _ _ _ _).2 ⟨by omega, h.2⟩) (by omega)
          simp [Memory.read, this]
        | succ i =>
          rw [List.getElem?_cons_succ, ih (a + 1) _ ((Memory.wfFrom_cons _ _ _ _).2 ⟨by omega, h.2⟩) i (by omega)]
          have e : a + 1 + i = a + (i + 1) := by omega
          rw [e]

/-- Byte `i` of a buffer's image is what reading address `i` gives. -/
theorem Memory.getElem?_image (fresh : Nat → Byte) {m : Memory} (h : Memory.wf m = true) {i : Nat} (hi : i < 192000) :
    (Memory.image fresh m)[i]? = some (Memory.read fresh m i) := by
  have := Memory.getElem?_readFrom fresh 192000 0 m h i hi
  rwa [Nat.zero_add] at this

theorem Memory.lookup_cellsFrom (l : List Byte) (a i : Nat) :
    Memory.lookup (Memory.cellsFrom a l) (a + i) = l[i]? := by
  induction l generalizing a i with
  | nil => rfl
  | cons v rest ih =>
    cases i with
    | zero => simp [Memory.cellsFrom, Memory.lookup]
    | succ i =>
      rw [Memory.cellsFrom, Memory.lookup, if_neg (by omega), List.getElem?_cons_succ, ← ih (a + 1) i]
      congr 1
      omega

/-- Address `i` of a buffer made of an image holds byte `i` of the image. -/
@[simp] theorem Memory.lookup_ofImage (img : Image) (i : Nat) : Memory.lookup (Memory.ofImage img) i = img[i]? := by
  have := Memory.lookup_cellsFrom img 0 i
  rwa [Nat.zero_add] at this

/-- The image of a buffer made of an image is that image. -/
theorem Memory.image_ofImage (fresh : Nat → Byte) {img : Image} (h : img.length = 192000) :
    Memory.image fresh (Memory.ofImage img) = img := by
  apply List.ext_getElem?
  intro i
  by_cases hi : i < 192000
  · rw [Memory.getElem?_image fresh (Memory.wf_ofImage (le_of_eq h)) hi, Memory.read, Memory.lookup_ofImage]
    rw [List.getElem?_eq_getElem (by omega)]
    rfl
  · rw [List.getElem?_eq_none (by rw [Memory.length_image]; omega), List.getElem?_eq_none (by omega)]

@[simp] theorem length_fillImage (v : Byte) : (fillImage v).length = 192000 := List.length_replicate

@[simp] theorem length_rot180Image (img : Image) : (rot180Image img).length = img.length := by simp [rot180Image]

@[simp] theorem length_rotateImage (b : Bool) (img : Image) : (rotateImage b img).length = img.length := by
  cases b <;> simp [rotateImage]

/-! ## Nibbles -/

@[simp] theorem hiNibble_packNibbles (a b : Nibble) : hiNibble (packNibbles a b) = a := by
  unfold hiNibble packNibbles
  grind

@[simp] theorem loNibble_packNibbles (a b : Nibble) : loNibble (packNibbles a b) = b := by
  unfold loNibble packNibbles
  grind

/-- A byte is its two nibbles. -/
@[simp] theorem packNibbles_eta (b : Byte) : packNibbles (hiNibble b) (loNibble b) = b := by
  unfold hiNibble loNibble packNibbles
  grind

@[simp] theorem nibbleOf_withNibble (x : Nat) (c : Nibble) (b : Byte) : nibbleOf x (withNibble x c b) = c := by
  unfold nibbleOf withNibble
  split_ifs <;> simp

/-- Writing one nibble of a byte leaves the other. -/
theorem nibbleOf_withNibble_other {x x' : Nat} (h : x % 2 ≠ x' % 2) (c : Nibble) (b : Byte) :
    nibbleOf x' (withNibble x c b) = nibbleOf x' b := by
  unfold nibbleOf withNibble
  split_ifs <;> first | omega | simp

@[simp] theorem swapNibbles_swapNibbles (b : Byte) : swapNibbles (swapNibbles b) = b := by simp [swapNibbles]

end Sys2Proof.Machine
end

