-- ==== Sys2Proof/Laws/Wire.lean ====
section
/-! SUPPORT. How the wire events of two protocol parts compose, and what a protocol part can do at all: it appends events that keep the
wire discipline, moves the lines as they say, takes draws, and changes nothing else. -/

namespace Sys2Proof.Machine

open Sys2Proof

/-! ## Draws -/

theorem Draws.ahead_skip (free : Nat → Bool) (d : Draws) (n k : Nat) :
    Draws.ahead free (Draws.skip n d) k = Draws.ahead free d (n + k) := by
  simp [Draws.ahead, Draws.skip, Nat.add_assoc]

theorem Draws.advance_eq_skip (d : Draws) : Draws.advance d = Draws.skip 1 d := rfl

@[simp] theorem Draws.skip_zero (d : Draws) : Draws.skip 0 d = d := rfl

theorem Draws.skip_skip (n m : Nat) (d : Draws) : Draws.skip m (Draws.skip n d) = Draws.skip (n + m) d := by
  simp [Draws.skip, Nat.add_assoc]

/-! ## Events -/

theorem lineAfter_append (p : Pin) (v : Option Level) (a b : List Event) :
    lineAfter p v (a ++ b) = lineAfter p (lineAfter p v a) b := by
  induction a generalizing v with
  | nil => rfl
  | cons e a ih => cases e <;> exact ih _

/-- Events that keep the wire discipline from CS high to CS high may be followed by any that do from CS high. -/
theorem framedFrom_append (cs : Level) (a b : List Event) (ha : framedFrom cs a = true) (hb : framedFrom true b = true) :
    framedFrom cs (a ++ b) = true := by
  induction a generalizing cs with
  | nil =>
    have : cs = true := ha
    subst this
    exact hb
  | cons e a ih =>
    cases e with
    | pin p v =>
      cases p <;> simp only [List.cons_append, framedFrom, Bool.and_eq_true] at ha ⊢
      · exact ⟨ha.1, ih _ ha.2⟩
      · exact ⟨ha.1, ih _ ha.2⟩
      · exact ih _ ha
    | bytes l =>
      simp only [List.cons_append, framedFrom, Bool.and_eq_true] at ha ⊢
      exact ⟨ha.1, ih _ ha.2⟩
    | bytesFailed l =>
      simp only [List.cons_append, framedFrom, Bool.and_eq_true] at ha ⊢
      exact ⟨ha.1, ih _ ha.2⟩
    | sample l =>
      simp only [List.cons_append, framedFrom, Bool.and_eq_true] at ha ⊢
      exact ⟨ha.1, ih _ ha.2⟩
    | delay l =>
      simp only [List.cons_append, framedFrom, Bool.and_eq_true] at ha ⊢
      exact ⟨ha.1, ih _ ha.2⟩

/-! ## Composing parts -/

@[simp] theorem afterWire_nil (s : State) : afterWire [] 0 0 s = s := by simp [afterWire, lineAfter]

theorem afterWire_afterWire (a b : List Event) (n m k l : Nat) (s : State) :
    afterWire b k l (afterWire a n m s) = afterWire (a ++ b) (n + k) (m + l) s := by
  simp [afterWire, lineAfter_append, Draws.skip_skip, List.append_assoc]

theorem emit_eq_afterWire (e : Event) (h : ∀ p v, e ≠ .pin p v) (s : State) : State.emit e s = afterWire [e] 0 0 s := by
  cases e with
  | pin p v => exact absurd rfl (h p v)
  | bytes b => simp [State.emit, afterWire, lineAfter]
  | bytesFailed b => simp [State.emit, afterWire, lineAfter]
  | sample b => simp [State.emit, afterWire, lineAfter]
  | delay b => simp [State.emit, afterWire, lineAfter]

theorem setPin_eq_afterWire (p : Pin) (v : Level) (s : State) : State.setPin p v s = afterWire [.pin p v] 0 0 s := by
  cases p <;> simp [State.setPin, State.emit, afterWire, lineAfter]

theorem delay_eq_afterWire (ms : Nat) (s : State) : State.delay ms s = afterWire [.delay ms] 0 0 s := by
  simp [State.delay, State.emit, afterWire, lineAfter]

theorem afterXfer_eq_afterWire (ok : Bool) (bs : List Byte) (s : State) :
    afterXfer ok bs s = afterWire [if ok then .bytes bs else .bytesFailed bs] 1 0 s := by
  cases ok <;> simp [afterXfer, State.emit, afterWire, lineAfter, Draws.advance_eq_skip]

theorem afterSample_eq_afterWire (v : Level) (s : State) : afterSample v s = afterWire [.sample v] 0 1 s := by
  simp [afterSample, State.emit, State.tookBusy, afterWire, lineAfter, Draws.advance_eq_skip]

/-- The reset waveform, as one part (42_panel_protocol.md R234). -/
theorem resetPanel_eq_afterWire (s : State) : resetPanel s = afterWire resetEvents 0 0 s := by
  simp [resetPanel, setPin_eq_afterWire, delay_eq_afterWire, afterWire_afterWire, resetEvents]

@[simp] theorem afterWire_cfg (es : List Event) (n m : Nat) (s : State) : (afterWire es n m s).cfg = s.cfg := rfl
@[simp] theorem afterWire_fb (es : List Event) (n m : Nat) (s : State) : (afterWire es n m s).fb = s.fb := rfl
@[simp] theorem afterWire_tb (es : List Event) (n m : Nat) (s : State) : (afterWire es n m s).tb = s.tb := rfl
@[simp] theorem afterWire_drvLog (es : List Event) (n m : Nat) (s : State) : (afterWire es n m s).drvLog = s.drvLog := rfl
@[simp] theorem afterWire_xfer (es : List Event) (n m : Nat) (s : State) : (afterWire es n m s).xfer = Draws.skip n s.xfer := rfl
@[simp] theorem afterWire_busy (es : List Event) (n m : Nat) (s : State) : (afterWire es n m s).busy = Draws.skip m s.busy := rfl

theorem TransfersOk.afterWire {s : State} {n k : Nat} (h : TransfersOk s (n + k)) (es : List Event) (m : Nat) :
    TransfersOk (afterWire es n m s) k := by
  intro i hi
  rw [afterWire_xfer, Draws.ahead_skip]
  exact h _ (by omega)

theorem TransfersOk.mono {s : State} {n k : Nat} (h : TransfersOk s n) (hk : k ≤ n) : TransfersOk s k :=
  fun i hi => h i (by omega)

theorem BusyReads1.afterWire {s : State} {m k : Nat} (h : BusyReads1 s (m + k)) (es : List Event) (n : Nat) :
    BusyReads1 (afterWire es n m s) k := by
  intro i hi
  rw [afterWire_busy, Draws.ahead_skip]
  exact h _ (by omega)

theorem BusyReads1.mono {s : State} {m k : Nat} (h : BusyReads1 s m) (hk : k ≤ m) : BusyReads1 s k :=
  fun i hi => h i (by omega)

/-! ## Lines and frames -/

/-- Where the wire discipline is kept, CS is high at the end. -/
theorem lineAfter_cs_of_framed (cs : Level) (es : List Event) (h : framedFrom cs es = true) :
    lineAfter .cs (some cs) es = some true := by
  induction es generalizing cs with
  | nil =>
    have : cs = true := h
    rw [this]
    rfl
  | cons e es ih =>
    cases e with
    | pin p v =>
      cases p
      · exact ih cs (by simp only [framedFrom, Bool.and_eq_true] at h; exact h.2)
      · exact ih cs (by simp only [framedFrom, Bool.and_eq_true] at h; exact h.2)
      · exact ih v h
    | bytes l => exact ih cs (by simp only [framedFrom, Bool.and_eq_true] at h; exact h.2)
    | bytesFailed l => exact ih cs (by simp only [framedFrom, Bool.and_eq_true] at h; exact h.2)
    | sample l => exact ih cs (by simp only [framedFrom, Bool.and_eq_true] at h; exact h.2)
    | delay l => exact ih cs (by simp only [framedFrom, Bool.and_eq_true] at h; exact h.2)

/-- A line once driven stays driven. -/
theorem lineAfter_isSome (p : Pin) (v : Option Level) (es : List Event) (h : v.isSome = true) :
    (lineAfter p v es).isSome = true := by
  induction es generalizing v with
  | nil => exact h
  | cons e es ih =>
    cases e with
    | pin q w =>
      simp only [lineAfter]
      split_ifs
      · exact ih _ rfl
      · exact ih _ h
    | bytes l => exact ih _ h
    | bytesFailed l => exact ih _ h
    | sample l => exact ih _ h
    | delay l => exact ih _ h

/-- The frames of two parts one after another, where the first keeps the wire discipline. -/
theorem framesFrom_append (dc : Option Level) (cur : Option Frame) (a b : List Event)
    (h : framedFrom cur.isNone a = true) :
    framesFrom dc cur (a ++ b) = framesFrom dc cur a ++ framesFrom (lineAfter .dc dc a) none b := by
  induction a generalizing dc cur with
  | nil =>
    have : cur = none := by simpa [framedFrom] using h
    subst this
    simp [framesFrom, lineAfter]
  | cons e a ih =>
    cases e with
    | pin p v =>
      cases p
      · simp only [framedFrom, Bool.and_eq_true] at h
        simpa [framesFrom, lineAfter] using ih dc cur h.2
      · simp only [framedFrom, Bool.and_eq_true] at h
        simpa [framesFrom, lineAfter] using ih (some v) cur h.2
      · cases v <;> cases cur <;> simpa [framesFrom, lineAfter, framedFrom] using ih dc _ (by simpa [framedFrom] using h)
    | bytes l =>
      simp only [framedFrom, Bool.and_eq_true] at h
      simpa [framesFrom, lineAfter] using ih dc (cur.map fun f => { f with bytes := f.bytes ++ l }) (by simpa using h.2)
    | bytesFailed l =>
      simp only [framedFrom, Bool.and_eq_true] at h
      simpa [framesFrom, lineAfter] using ih dc (cur.map fun f => { f with failed := true }) (by simpa using h.2)
    | sample l =>
      simp only [framedFrom, Bool.and_eq_true] at h
      simpa [framesFrom, lineAfter] using ih dc cur h.2
    | delay l =>
      simp only [framedFrom, Bool.and_eq_true] at h
      simpa [framesFrom, lineAfter] using ih dc cur h.2

/-! ## What a part can do -/

/-- The state a part of an operation has reached, done or not. -/
def Res.stateOf : Res → State
  | .done s => s
  | .raised _ s => s

/-- The error a part of an operation raised, if any. -/
def Res.errorOf : Res → Option OpError
  | .done _ => none
  | .raised e _ => some e

/-- Events a protocol part may emit: they keep the wire discipline, leave RST alone, and each frame without a failed transfer has one of
the three shapes of 30_encoding.md R125. -/
structure PartEvents (cfg : Config) (es : List Event) : Prop where
  framed : framedFrom true es = true
  rst    : ∀ v, lineAfter .rst v es = v
  shapes : ∀ dc, (framesFrom dc none es).all (fun f => f.failed || frameShape cfg f) = true

theorem PartEvents.nil (cfg : Config) : PartEvents cfg [] := ⟨rfl, fun _ => rfl, fun _ => rfl⟩

theorem PartEvents.append {cfg : Config} {a b : List Event} (ha : PartEvents cfg a) (hb : PartEvents cfg b) :
    PartEvents cfg (a ++ b) where
  framed := framedFrom_append true a b ha.framed hb.framed
  rst v := by rw [lineAfter_append, ha.rst, hb.rst]
  shapes dc := by
    rw [framesFrom_append dc none a b ha.framed, List.all_append, ha.shapes, hb.shapes]
    rfl

/-- A protocol part begun in `s` and come to `r`: it appended events as `PartEvents` says and changed nothing else, and if it raised an
error, that is a BusError or a TimeoutError. -/
def WirePart (s : State) (r : Res) : Prop :=
  (∃ es n m, Res.stateOf r = afterWire es n m s ∧ PartEvents s.cfg es)
    ∧ ∀ e t, r = .raised e t → e.kind = .busError ∨ e.kind = .timeoutError

theorem WirePart.done_self (s : State) : WirePart s (.done s) :=
  ⟨⟨[], 0, 0, by simp [Res.stateOf], PartEvents.nil _⟩, fun e t h => by cases h⟩

theorem WirePart.andThen {s : State} {r : Res} {f : State → Res} (hr : WirePart s r) (hf : ∀ t, r = .done t → WirePart t (f t)) :
    WirePart s (Res.andThen r f) := by
  cases r with
  | raised e t => exact hr
  | done t =>
    obtain ⟨⟨es, n, m, h1, h2⟩, -⟩ := hr
    obtain ⟨⟨es', n', m', h1', h2'⟩, h3⟩ := hf t rfl
    have ht : t = afterWire es n m s := h1
    have hc : t.cfg = s.cfg := by rw [ht, afterWire_cfg]
    rw [hc] at h2'
    refine ⟨⟨es ++ es', n + n', m + m', ?_, h2.append h2'⟩, h3⟩
    rw [← afterWire_afterWire, ← ht]
    exact h1'

end Sys2Proof.Machine
end

