-- ==== Sys2Proof/Laws/Panel.lean ====
section
/-! SUPPORT. One lemma for each shared operation of the panel protocol that says what it does: without failure, on a failed transfer or on a
timeout, and in every case (a `WirePart`). -/

namespace Sys2Proof.Machine

open Sys2Proof

/-! ## One byte -/

/-- `sendByte`, both ways (42_panel_protocol.md R237, R239). -/
theorem sendByte_eq (dc : Level) (b stage : Byte) (j : Nat) (s : State) :
    sendByte dc b stage j s =
      if xferNow s then .done (afterWire [.pin .dc dc, .pin .cs false, .bytes [b], .pin .cs true] 1 0 s)
      else .raised ⟨.busError, stage, j⟩ (afterWire [.pin .dc dc, .pin .cs false, .bytesFailed [b], .pin .cs true] 1 0 s) := by
  have hx : xferNow (State.setPin .cs false (State.setPin .dc dc s)) = xferNow s := by simp [xferNow]
  unfold sendByte
  simp only [hx]
  cases xferNow s <;>
    simp [setPin_eq_afterWire, afterXfer_eq_afterWire, afterWire_afterWire]

theorem xferNow_of_TransfersOk {s : State} {n : Nat} (h : TransfersOk s (n + 1)) : xferNow s = true := h 0 (by omega)

theorem sendByte_ok {s : State} (h : xferNow s = true) (dc : Level) (b stage : Byte) (j : Nat) :
    sendByte dc b stage j s = .done (afterWire [.pin .dc dc, .pin .cs false, .bytes [b], .pin .cs true] 1 0 s) := by
  rw [sendByte_eq, if_pos h]

theorem partEvents_byteFrame (cfg : Config) (dc : Level) (b : Byte) :
    PartEvents cfg [.pin .dc dc, .pin .cs false, .bytes [b], .pin .cs true]
      ∧ PartEvents cfg [.pin .dc dc, .pin .cs false, .bytesFailed [b], .pin .cs true] :=
  ⟨⟨rfl, fun _ => rfl, fun _ => by cases h : cfg.dcCmdLevel <;> cases dc <;> simp [framesFrom, frameShape, h]⟩,
    ⟨rfl, fun _ => rfl, fun _ => by simp [framesFrom]⟩⟩

theorem sendByte_wire (dc : Level) (b stage : Byte) (j : Nat) (s : State) : WirePart s (sendByte dc b stage j s) := by
  rw [sendByte_eq]
  split_ifs
  · exact ⟨⟨_, 1, 0, rfl, (partEvents_byteFrame s.cfg dc b).1⟩, fun e t h => by cases h⟩
  · refine ⟨⟨_, 1, 0, rfl, (partEvents_byteFrame s.cfg dc b).2⟩, fun e t h => ?_⟩
    cases h
    exact .inl rfl

/-! ## The busy-poll -/

/-- A poll whose first `k` samples read 0 and whose next reads 1, with `k` retries allowed (42_panel_protocol.md R235). -/
theorem pollBusy_ready (stage : Byte) (j : Nat) (left k : Nat) (s : State) (hk : k ≤ left) (h0 : BusyReads0 s k)
    (h1 : Draws.ahead Config.busyLevel s.busy k = true) :
    pollBusy stage j left s = .done (afterWire (pollEvents k ++ [.sample true]) 0 (k + 1) s) := by
  induction k generalizing left s with
  | zero =>
    have hb : busyNow s = true := h1
    cases left <;> simp [pollBusy, hb, afterSample_eq_afterWire, pollEvents]
  | succ k ih =>
    obtain ⟨left, rfl⟩ : ∃ l, left = l + 1 := ⟨left - 1, by omega⟩
    have hb : busyNow s = false := h0 0 (by omega)
    have hs : State.delay 10 (afterSample false s) = afterWire [.sample false, .delay 10] 0 1 s := by
      rw [afterSample_eq_afterWire, delay_eq_afterWire, afterWire_afterWire]
      rfl
    simp only [pollBusy, hb, hs, Bool.false_eq_true, if_false]
    rw [ih left _ (by omega)]
    · rw [afterWire_afterWire]
      simp [pollEvents, List.replicate_succ, Nat.add_comm, Nat.add_left_comm]
    · intro i hi
      rw [afterWire_busy, Draws.ahead_skip]
      exact h0 _ (by omega)
    · rw [afterWire_busy, Draws.ahead_skip, Nat.add_comm]
      exact h1

/-- A poll all of whose samples read 0 (42_panel_protocol.md R235). -/
theorem pollBusy_timeout (stage : Byte) (j : Nat) (left : Nat) (s : State) (h0 : BusyReads0 s (left + 1)) :
    pollBusy stage j left s =
      .raised ⟨.timeoutError, stage, j⟩ (afterWire (pollEvents left ++ [.sample false]) 0 (left + 1) s) := by
  induction left generalizing s with
  | zero =>
    have hb : busyNow s = false := h0 0 (by omega)
    simp [pollBusy, hb, afterSample_eq_afterWire, pollEvents]
  | succ left ih =>
    have hb : busyNow s = false := h0 0 (by omega)
    have hs : State.delay 10 (afterSample false s) = afterWire [.sample false, .delay 10] 0 1 s := by
      rw [afterSample_eq_afterWire, delay_eq_afterWire, afterWire_afterWire]
      rfl
    simp only [pollBusy, hb, hs, Bool.false_eq_true, if_false]
    rw [ih]
    · rw [afterWire_afterWire]
      simp [pollEvents, List.replicate_succ, Nat.add_comm, Nat.add_left_comm]
    · intro i hi
      rw [afterWire_busy, Draws.ahead_skip]
      exact h0 _ (by omega)

/-- A poll either meets a sample of 1 in time or reads 0 at every sample. -/
theorem pollBusy_cases (s : State) (left : Nat) :
    (∃ k ≤ left, BusyReads0 s k ∧ Draws.ahead Config.busyLevel s.busy k = true) ∨ BusyReads0 s (left + 1) := by
  by_cases h : ∃ k, k ≤ left ∧ Draws.ahead Config.busyLevel s.busy k = true
  · left
    classical
    refine ⟨Nat.find h, (Nat.find_spec h).1, fun i hi => ?_, (Nat.find_spec h).2⟩
    have := Nat.find_min h hi
    have hle : i ≤ left := by
      have := (Nat.find_spec h).1
      omega
    simpa [hle] using this
  · right
    intro i hi
    have : ¬(i ≤ left ∧ Draws.ahead Config.busyLevel s.busy i = true) := fun hh => h ⟨i, hh⟩
    simpa [show i ≤ left by omega] using this

theorem partEvents_sample (cfg : Config) (l : Level) : PartEvents cfg [.sample l] := ⟨rfl, fun _ => rfl, fun _ => rfl⟩

theorem partEvents_delay (cfg : Config) (ms : Nat) : PartEvents cfg [.delay ms] := ⟨rfl, fun _ => rfl, fun _ => rfl⟩

theorem partEvents_pollEvents (cfg : Config) (k : Nat) : PartEvents cfg (pollEvents k) := by
  induction k with
  | zero => exact PartEvents.nil cfg
  | succ k ih =>
    have : pollEvents (k + 1) = [Event.sample false] ++ [Event.delay 10] ++ pollEvents k := by
      simp [pollEvents, List.replicate_succ]
    rw [this]
    exact ((partEvents_sample cfg false).append (partEvents_delay cfg 10)).append ih

/-- A busy-wait drives no line. -/
theorem lineAfter_pollEvents (p : Pin) (v : Option Level) (k : Nat) (es : List Event) :
    lineAfter p v (pollEvents k ++ es) = lineAfter p v es := by
  induction k with
  | zero => rfl
  | succ k ih => simpa [pollEvents, List.replicate_succ, lineAfter] using ih

theorem pollBusy_wire (stage : Byte) (j left : Nat) (s : State) : WirePart s (pollBusy stage j left s) := by
  rcases pollBusy_cases s left with ⟨k, hk, h0, h1⟩ | h0
  · rw [pollBusy_ready stage j left k s hk h0 h1]
    exact ⟨⟨_, _, _, rfl, (partEvents_pollEvents s.cfg k).append (partEvents_sample s.cfg true)⟩, fun e t h => by cases h⟩
  · rw [pollBusy_timeout stage j left s h0]
    refine ⟨⟨_, _, _, rfl, (partEvents_pollEvents s.cfg left).append (partEvents_sample s.cfg false)⟩, fun e t h => ?_⟩
    cases h
    exact .inr rfl

/-! ## The buffer frame -/

/-- Chunks all of whose transfers succeed (42_panel_protocol.md R241). -/
theorem sendChunks_ok (stage : Byte) (cs : List (List Byte)) (k : Nat) (s : State) (h : TransfersOk s cs.length) :
    sendChunks stage cs k s = .done (afterWire (cs.map Event.bytes ++ [.pin .cs true]) cs.length 0 s) := by
  induction cs generalizing k s with
  | nil => simp [sendChunks, setPin_eq_afterWire]
  | cons c rest ih =>
    have hx : xferNow s = true := h 0 (by simp)
    rw [sendChunks, if_pos hx, afterXfer_eq_afterWire, ih]
    · rw [afterWire_afterWire]
      simp [Nat.add_comm]
    · apply TransfersOk.afterWire
      rw [Nat.add_comm]
      exact h

/-- Chunks of which the first `n` succeed and the next one fails: the error names the failing chunk, and no later chunk is sent
(42_panel_protocol.md R241, R242). -/
theorem sendChunks_fail (stage : Byte) (before : List (List Byte)) (c : List Byte) (rest : List (List Byte)) (k : Nat) (s : State)
    (h : TransfersOk s before.length) (hf : Draws.ahead Config.xferOk s.xfer before.length = false) :
    sendChunks stage (before ++ c :: rest) k s =
      .raised ⟨.busError, stage, k + before.length + 1⟩
        (afterWire (before.map Event.bytes ++ [.bytesFailed c, .pin .cs true]) (before.length + 1) 0 s) := by
  induction before generalizing k s with
  | nil =>
    have hx : xferNow s = false := hf
    simp [sendChunks, hx, afterXfer_eq_afterWire, setPin_eq_afterWire, afterWire_afterWire]
  | cons b before ih =>
    have hx : xferNow s = true := h 0 (by simp)
    rw [List.cons_append, sendChunks, if_pos hx, afterXfer_eq_afterWire, ih]
    · rw [afterWire_afterWire]
      simp [Nat.add_comm, Nat.add_left_comm, Nat.add_assoc]
    · apply TransfersOk.afterWire
      rw [Nat.add_comm]
      exact h
    · rw [afterWire_xfer, Draws.ahead_skip, Nat.add_comm]
      exact hf

@[simp] theorem length_chunksOf (img : Image) : (chunksOf img).length = 39 := by simp [chunksOf]

/-- The buffer frame without failure (42_panel_protocol.md R241). -/
theorem sendBuffer_ok (stage : Byte) (s : State) (h : TransfersOk s 39) :
    sendBuffer stage s = .done (afterWire (bufferFrameEvents s.cfg (tbImage s)) 39 0 s) := by
  unfold sendBuffer
  have h2 : State.setPin .cs false (State.setPin .dc (dcData s) s)
      = afterWire [.pin .dc (!s.cfg.dcCmdLevel), .pin .cs false] 0 0 s := by
    simp [setPin_eq_afterWire, afterWire_afterWire, dcData]
  rw [h2, sendChunks_ok]
  · rw [afterWire_afterWire]
    simp [bufferFrameEvents, chunksOf, chunkOf, Function.comp_def]
  · rw [length_chunksOf]
    exact TransfersOk.afterWire (by simpa using h) _ 0

/-- Of the next `n` transfers either all succeed or one fails first (20_memory.md R93). -/
theorem TransfersOk_cases (s : State) (n : Nat) :
    TransfersOk s n ∨ ∃ k < n, TransfersOk s k ∧ Draws.ahead Config.xferOk s.xfer k = false := by
  induction n with
  | zero => exact .inl fun k hk => by omega
  | succ n ih =>
    rcases ih with h | ⟨k, hk, h⟩
    · cases hn : Draws.ahead Config.xferOk s.xfer n
      · exact .inr ⟨n, by omega, h, hn⟩
      · refine .inl fun k hk => ?_
        rcases Nat.lt_succ_iff_lt_or_eq.1 hk with hk | rfl
        · exact h k hk
        · exact hn
    · exact .inr ⟨k, by omega, h⟩

/-- The 39 chunks, split at chunk `k`. -/
theorem chunksOf_split (img : Image) {k : Nat} (hk : k < 39) :
    chunksOf img = (List.range' 0 k).map (chunkOf img) ++ chunkOf img k :: (List.range' (k + 1) (38 - k)).map (chunkOf img) := by
  have h : List.range' 0 39 = List.range' 0 k ++ k :: List.range' (k + 1) (38 - k) := by
    have h1 : List.range' 0 39 = List.range' 0 (k + (38 - k + 1)) := by
      congr 1
      omega
    rw [h1, ← List.range'_append_1, Nat.zero_add, List.range'_succ]
  simp [chunksOf, h]

/-- The buffer frame whose chunk `k` fails: no later chunk is sent and CS is released (42_panel_protocol.md R241). -/
theorem sendBuffer_fail (stage : Byte) (s : State) {k : Nat} (hk : k < 39) (h : TransfersOk s k)
    (hf : Draws.ahead Config.xferOk s.xfer k = false) :
    sendBuffer stage s = .raised ⟨.busError, stage, k + 1⟩
      (afterWire ([.pin .dc (!s.cfg.dcCmdLevel), .pin .cs false] ++ (List.range' 0 k).map (fun j => .bytes (chunkOf (tbImage s) j))
        ++ [.bytesFailed (chunkOf (tbImage s) k), .pin .cs true]) (k + 1) 0 s) := by
  unfold sendBuffer
  have h2 : State.setPin .cs false (State.setPin .dc (dcData s) s)
      = afterWire [.pin .dc (!s.cfg.dcCmdLevel), .pin .cs false] 0 0 s := by
    simp [setPin_eq_afterWire, afterWire_afterWire, dcData]
  rw [h2, chunksOf_split _ hk, sendChunks_fail]
  · rw [afterWire_afterWire]
    simp [Function.comp_def]
  · simpa using TransfersOk.afterWire (n := 0) (by simpa using h) [.pin .dc (!s.cfg.dcCmdLevel), .pin .cs false] 0
  · simpa [Draws.ahead_skip] using hf

/-! ## The frames of a buffer -/

theorem framesFrom_bytes (dc : Option Level) (f : Frame) (l : List (List Byte)) (es : List Event) :
    framesFrom dc (some f) (l.map Event.bytes ++ es) = framesFrom dc (some { f with bytes := f.bytes ++ l.flatten }) es := by
  induction l generalizing f with
  | nil => simp
  | cons b l ih =>
    simp only [List.map_cons, List.cons_append, framesFrom, Option.map_some, ih]
    simp [List.append_assoc]

theorem flatten_chunks (img : Image) (n : Nat) : ((List.range' 0 n).map (chunkOf img)).flatten = img.take (5000 * n) := by
  induction n with
  | zero => simp
  | succ n ih =>
    rw [List.range'_1_concat, List.map_append, List.flatten_append, ih]
    simp [chunkOf, Nat.mul_succ, List.take_add]

/-- The chunks of a whole image are its bytes in order (42_panel_protocol.md R241, 00_scope.md R8). -/
theorem flatten_chunksOf {img : Image} (h : img.length = 192000) : (chunksOf img).flatten = img := by
  rw [chunksOf, flatten_chunks, List.take_of_length_le (by omega)]

theorem lineAfter_bytes (p : Pin) (v : Option Level) (l : List (List Byte)) (es : List Event) :
    lineAfter p v (l.map Event.bytes ++ es) = lineAfter p v es := by
  induction l with
  | nil => rfl
  | cons b l ih => exact ih

theorem framedFrom_bytes (l : List (List Byte)) (es : List Event) :
    framedFrom false (l.map Event.bytes ++ es) = framedFrom false es := by
  induction l with
  | nil => rfl
  | cons b l ih => simpa [framedFrom] using ih

@[simp] theorem length_tbImage (s : State) : (tbImage s).length = 192000 := Memory.length_image _ _

@[simp] theorem length_fbImage (s : State) : (fbImage s).length = 192000 := Memory.length_image _ _

theorem bufferFrameEvents_eq (cfg : Config) (img : Image) :
    bufferFrameEvents cfg img
      = .pin .dc (!cfg.dcCmdLevel) :: .pin .cs false :: ((chunksOf img).map Event.bytes ++ [.pin .cs true]) := by
  simp [bufferFrameEvents, chunksOf, chunkOf, Function.comp_def]

theorem partEvents_bufferFrame (cfg : Config) {img : Image} (h : img.length = 192000) :
    PartEvents cfg (bufferFrameEvents cfg img) := by
  rw [bufferFrameEvents_eq]
  refine ⟨by simp [framedFrom, framedFrom_bytes], fun v => by simp [lineAfter, lineAfter_bytes], fun dc => ?_⟩
  simp [framesFrom, framesFrom_bytes, flatten_chunksOf h, frameShape, h]

theorem partEvents_brokenFrame (cfg : Config) (dc : Level) (l : List (List Byte)) (b : List Byte) :
    PartEvents cfg ([.pin .dc dc, .pin .cs false] ++ l.map Event.bytes ++ [.bytesFailed b, .pin .cs true]) := by
  refine ⟨by simp [framedFrom, framedFrom_bytes], fun v => by simp [lineAfter, lineAfter_bytes], fun dc => ?_⟩
  simp [framesFrom, framesFrom_bytes]

theorem sendBuffer_wire (stage : Byte) (s : State) : WirePart s (sendBuffer stage s) := by
  rcases TransfersOk_cases s 39 with h | ⟨k, hk, h, hf⟩
  · rw [sendBuffer_ok stage s h]
    exact ⟨⟨_, 39, 0, rfl, partEvents_bufferFrame s.cfg (length_tbImage s)⟩, fun e t h => by cases h⟩
  · rw [sendBuffer_fail stage s hk h hf]
    refine ⟨⟨_, k + 1, 0, rfl, ?_⟩, fun e t h => by cases h; exact .inl rfl⟩
    have := partEvents_brokenFrame s.cfg (!s.cfg.dcCmdLevel) ((List.range' 0 k).map (chunkOf (tbImage s))) (chunkOf (tbImage s) k)
    simpa [Function.comp_def] using this

/-! ## Init steps -/

theorem writeDataBytes_ok (stage : Byte) (j : Nat) (d : List Byte) (s : State) (h : TransfersOk s d.length) :
    writeDataBytes stage j d s = .done (afterWire (d.flatMap (dataFrameEvents s.cfg)) d.length 0 s) := by
  induction d generalizing s with
  | nil => simp [writeDataBytes]
  | cons b rest ih =>
    have hx : xferNow s = true := h 0 (by simp)
    rw [writeDataBytes, writeDataByte, sendByte_ok hx]
    show writeDataBytes stage j rest _ = _
    rw [ih]
    · rw [afterWire_afterWire]
      simp [dataFrameEvents, dcData, Nat.add_comm]
    · apply TransfersOk.afterWire
      rw [Nat.add_comm]
      exact h

theorem writeDataBytes_wire (stage : Byte) (j : Nat) (d : List Byte) (s : State) : WirePart s (writeDataBytes stage j d s) := by
  induction d generalizing s with
  | nil => exact WirePart.done_self s
  | cons b rest ih => exact WirePart.andThen (sendByte_wire _ _ _ _ _) (fun t _ => ih t)

/-- One init step without failure (42_panel_protocol.md R243). -/
theorem runStep_ok (stage : Byte) (j : Nat) (st : InitStep) (s : State) (hx : TransfersOk s (stepTransfers st))
    (hb : BusyReads1 s (stepWaits st)) :
    runStep stage j st s = .done (afterWire (stepEvents s.cfg st) (stepTransfers st) (stepWaits st) s) := by
  cases st with
  | cmd c d =>
    have h0 : xferNow s = true := hx 0 (by simp [stepTransfers])
    rw [runStep, writeCommand, sendByte_ok h0]
    show writeDataBytes stage j d _ = _
    rw [writeDataBytes_ok]
    · rw [afterWire_afterWire]
      rfl
    · exact TransfersOk.afterWire hx _ 0
  | wait t =>
    have := pollBusy_ready stage j (t / 10) 0 s (by omega) (fun i hi => by omega) (hb 0 (by simp [stepWaits]))
    simpa [runStep, waitBusy, pollEvents, stepEvents, stepTransfers, stepWaits] using this
  | delayMs t => simp [runStep, delay_eq_afterWire, stepEvents, stepTransfers, stepWaits]

theorem runStep_wire (stage : Byte) (j : Nat) (st : InitStep) (s : State) : WirePart s (runStep stage j st s) := by
  cases st with
  | cmd c d => exact WirePart.andThen (sendByte_wire _ _ _ _ _) (fun t _ => writeDataBytes_wire _ _ _ t)
  | wait t => exact pollBusy_wire _ _ _ _
  | delayMs t =>
    exact ⟨⟨[.delay t], 0, 0, delay_eq_afterWire t s, partEvents_delay s.cfg t⟩, fun e u h => by cases h⟩

/-- A list of init steps without failure (42_panel_protocol.md R243, R251). -/
theorem runSteps_ok (stage : Byte) (l : List InitStep) (j : Nat) (s : State) (hx : TransfersOk s (listTransfers l))
    (hb : BusyReads1 s (listWaits l)) :
    runSteps stage l j s = .done (afterWire (stepsEvents s.cfg l) (listTransfers l) (listWaits l) s) := by
  induction l generalizing j s with
  | nil => simp [runSteps, stepsEvents, listTransfers, listWaits]
  | cons st rest ih =>
    have hx' : TransfersOk s (stepTransfers st + listTransfers rest) := by simpa [listTransfers] using hx
    have hb' : BusyReads1 s (stepWaits st + listWaits rest) := by simpa [listWaits] using hb
    rw [runSteps, runStep_ok stage j st s (hx'.mono (by omega)) (hb'.mono (by omega))]
    show runSteps stage rest (j + 1) _ = _
    rw [ih]
    · rw [afterWire_afterWire]
      simp [stepsEvents, listTransfers, listWaits]
    · exact hx'.afterWire _ _
    · exact hb'.afterWire _ _

theorem runSteps_wire (stage : Byte) (l : List InitStep) (j : Nat) (s : State) : WirePart s (runSteps stage l j s) := by
  induction l generalizing j s with
  | nil => exact WirePart.done_self s
  | cons st rest ih => exact WirePart.andThen (runStep_wire _ _ _ _) (fun t _ => ih _ t)

/-! ## The flush -/

/-- A flush without failure (42_panel_protocol.md R247, R251). -/
theorem flushPanel_ok (s : State) (hx : TransfersOk s (flushTransfers s.cfg)) (hb : BusyReads1 s (listWaits s.cfg.turnOnSeq)) :
    flushPanel s = .done (afterWire (flushEvents s.cfg (tbImage s)) (flushTransfers s.cfg) (listWaits s.cfg.turnOnSeq) s) := by
  have hx1 : TransfersOk s (1 + (39 + listTransfers s.cfg.turnOnSeq)) :=
    hx.mono (le_of_eq (by simp [flushTransfers]; omega))
  have h0 : xferNow s = true := hx1 0 (by omega)
  rw [flushPanel, writeCommand, sendByte_ok h0]
  show Res.andThen (sendBuffer 0x03 _) runTurnOn = _
  have hx2 := hx1.afterWire [.pin .dc (dcCommand s), .pin .cs false, .bytes [s.cfg.dataStartCmd], .pin .cs true] 0
  rw [sendBuffer_ok _ _ (hx2.mono (by omega))]
  show runTurnOn _ = _
  rw [runTurnOn, runSteps_ok]
  · simp [afterWire_afterWire, flushEvents, commandFrameEvents, dcCommand, flushTransfers, tbImage]
  · exact hx2.afterWire _ _
  · intro i hi
    simp only [afterWire_busy, Draws.skip_zero]
    exact hb i hi

theorem flushPanel_wire (s : State) : WirePart s (flushPanel s) :=
  WirePart.andThen (WirePart.andThen (sendByte_wire _ _ _ _ _) (fun t _ => sendBuffer_wire _ t)) (fun t _ => runSteps_wire _ _ _ t)

end Sys2Proof.Machine
end

