-- ==== Sys2Proof/Laws/Lifecycle.lean ====
section
/-! SUPPORT. How an operation ends, and one lemma for each shared operation of the lifecycle that says everything it can do: the flush of
FLUSH and RENDER, and INIT from the configured bus on. -/

namespace Sys2Proof.Machine

open Sys2Proof

/-! ## How an operation ends -/

/-- Every operation answers a next state: `finish` of its outcome. -/
theorem outcome_eq (r : Res) : outcome r = .next (Res.finish r) := rfl

theorem finish_done (s : State) : Res.finish (.done s) = endedOk s := rfl

theorem finish_raised (e : OpError) (s : State) : Res.finish (.raised e s) = endedWith e.kind (errinfoWord e.stage e.step) s := rfl

theorem finish_requireState {ok : Bool} {s : State} {body : Res} :
    Res.finish (requireState ok s body) = if ok then Res.finish body else endedWith .stateError 0#32 s := by
  cases ok <;> rfl

theorem finish_requireLegal {ok : Bool} {s : State} {body : Res} :
    Res.finish (requireLegal ok s body) = if ok then Res.finish body else endedWith .illegalCommand 0#32 s := by
  cases ok <;> rfl

theorem finish_requireSource {ok : Bool} {s : State} {body : Res} :
    Res.finish (requireSource ok s body) = if ok then Res.finish body else endedWith .formatError 0#32 s := by
  cases ok <;> rfl

/-! ## Where an error comes from -/

theorem andThen_raised {r : Res} {f : State → Res} {e : OpError} {t : State} (h : Res.andThen r f = .raised e t) :
    r = .raised e t ∨ ∃ u, r = .done u ∧ f u = .raised e t := by
  cases r with
  | done u => exact .inr ⟨u, rfl, h⟩
  | raised e' t' => exact .inl h

theorem andThen_done {r : Res} {f : State → Res} {t : State} (h : Res.andThen r f = .done t) :
    ∃ u, r = .done u ∧ f u = .done t := by
  cases r with
  | done u => exact ⟨u, rfl, h⟩
  | raised e' t' => cases h

theorem sendByte_raised {dc : Level} {b stage : Byte} {j : Nat} {s t : State} {e : OpError}
    (h : sendByte dc b stage j s = .raised e t) : e = ⟨.busError, stage, j⟩ := by
  rw [sendByte_eq] at h
  split_ifs at h
  cases h
  rfl

theorem sendBuffer_raised {stage : Byte} {s t : State} {e : OpError} (h : sendBuffer stage s = .raised e t) :
    e.kind = .busError ∧ e.stage = stage ∧ 1 ≤ e.step ∧ e.step ≤ 39 := by
  rcases TransfersOk_cases s 39 with hx | ⟨k, hk, hx, hf⟩
  · rw [sendBuffer_ok stage s hx] at h
    cases h
  · rw [sendBuffer_fail stage s hk hx hf] at h
    cases h
    exact ⟨rfl, rfl, by simp, by simp only; omega⟩

theorem pollBusy_raised {stage : Byte} {j left : Nat} {s t : State} {e : OpError} (h : pollBusy stage j left s = .raised e t) :
    e = ⟨.timeoutError, stage, j⟩ := by
  rcases pollBusy_cases s left with ⟨k, hk, h0, h1⟩ | h0
  · rw [pollBusy_ready stage j left k s hk h0 h1] at h
    cases h
  · rw [pollBusy_timeout stage j left s h0] at h
    cases h
    rfl

theorem writeDataBytes_raised {stage : Byte} {j : Nat} {d : List Byte} {s t : State} {e : OpError}
    (h : writeDataBytes stage j d s = .raised e t) : e = ⟨.busError, stage, j⟩ := by
  induction d generalizing s with
  | nil => cases h
  | cons b rest ih =>
    rcases andThen_raised h with h | ⟨u, -, h⟩
    · exact sendByte_raised h
    · exact ih h

/-- An error of one init step carries the list's stage and the step's index (42_panel_protocol.md R243). -/
theorem runStep_raised {stage : Byte} {j : Nat} {st : InitStep} {s t : State} {e : OpError}
    (h : runStep stage j st s = .raised e t) :
    e.stage = stage ∧ e.step = j
      ∧ ((∃ c d, st = .cmd c d ∧ e.kind = .busError) ∨ (∃ n, st = .wait n ∧ e.kind = .timeoutError)) := by
  cases st with
  | cmd c d =>
    rcases andThen_raised h with h | ⟨u, -, h⟩
    · rw [sendByte_raised h]
      exact ⟨rfl, rfl, .inl ⟨c, d, rfl, rfl⟩⟩
    · rw [writeDataBytes_raised h]
      exact ⟨rfl, rfl, .inl ⟨c, d, rfl, rfl⟩⟩
  | wait n =>
    rw [pollBusy_raised h]
    exact ⟨rfl, rfl, .inr ⟨n, rfl, rfl⟩⟩
  | delayMs n => cases h

/-- An error of a list of init steps is that of one of its steps (42_panel_protocol.md R243, 60_exceptions.md R324). -/
theorem runSteps_raised {stage : Byte} {l : List InitStep} {j : Nat} {s t : State} {e : OpError}
    (h : runSteps stage l j s = .raised e t) :
    e.stage = stage ∧ ∃ k st, l[k]? = some st ∧ e.step = j + k
      ∧ ((∃ c d, st = .cmd c d ∧ e.kind = .busError) ∨ (∃ n, st = .wait n ∧ e.kind = .timeoutError)) := by
  induction l generalizing j s with
  | nil => cases h
  | cons st rest ih =>
    rcases andThen_raised h with h | ⟨u, -, h⟩
    · obtain ⟨h1, h2, h3⟩ := runStep_raised h
      exact ⟨h1, 0, st, rfl, h2, h3⟩
    · obtain ⟨h1, k, st', hk, h2, h3⟩ := ih h
      exact ⟨h1, k + 1, st', hk, by omega, h3⟩

/-- ERR and ERRINFO where a list of init steps raises an error (60_exceptions.md R324). -/
theorem listErrorAt_of_raised {stage : Byte} {l : List InitStep} {s t : State} {e : OpError}
    (h : runSteps stage l 0 s = .raised e t) (u : State) :
    ListErrorAt stage l (endedWith e.kind (errinfoWord e.stage e.step) u) := by
  obtain ⟨rfl, k, st, hk, h2, h3⟩ := runSteps_raised h
  refine ⟨k, st, hk, ?_, h3⟩
  rw [h2, Nat.zero_add]
  rfl

/-- ERR and ERRINFO where a flush raises an error (60_exceptions.md R324). -/
theorem flushErrorAt_of_raised {cfg : Config} {s t : State} {e : OpError} (h : flushPanel s = .raised e t) (hc : s.cfg = cfg)
    (u : State) : FlushErrorAt cfg (endedWith e.kind (errinfoWord e.stage e.step) u) := by
  subst hc
  rcases andThen_raised h with h | ⟨v, hv, h⟩
  · left
    rcases andThen_raised h with h | ⟨v, -, h⟩
    · rw [sendByte_raised h]
      exact ⟨rfl, 0, by omega, rfl⟩
    · obtain ⟨h1, h2, -, h3⟩ := sendBuffer_raised h
      exact ⟨h1, e.step, h3, by rw [h2]; rfl⟩
  · right
    have hw : WirePart s (Res.andThen (writeCommand s.cfg.dataStartCmd 0x03 0 s) (sendBuffer 0x03)) :=
      WirePart.andThen (sendByte_wire _ _ _ _ _) (fun t _ => sendBuffer_wire _ t)
    rw [hv] at hw
    obtain ⟨⟨es, n, m, rfl, -⟩, -⟩ := hw
    exact listErrorAt_of_raised h u

/-! ## The flush of FLUSH and RENDER -/

theorem afterWire_setDrv (es : List Event) (n m : Nat) (d : DrvState) (s : State) :
    afterWire es n m (State.setDrv d s) = State.setDrv d (afterWire es n m s) := rfl

theorem WirePart.done_or_raised {s : State} {r : Res} (h : WirePart s r) :
    ∃ es n m, PartEvents s.cfg es ∧
      (r = .done (afterWire es n m s) ∨
        ∃ e, r = .raised e (afterWire es n m s) ∧ (e.kind = .busError ∨ e.kind = .timeoutError)) := by
  obtain ⟨⟨es, n, m, h1, h2⟩, h3⟩ := h
  refine ⟨es, n, m, h2, ?_⟩
  cases r with
  | done t => exact .inl (congrArg Res.done h1)
  | raised e t => exact .inr ⟨e, congrArg (Res.raised e) h1, h3 e t rfl⟩

/-- Everything the flush of FLUSH and RENDER can do (42_panel_protocol.md R247, R248; 60_exceptions.md R329). -/
theorem flushFromIdle_cases (s : State) :
    ∃ es n m, PartEvents s.cfg es ∧
      (flushFromIdle s = .done (State.setDrv .idle (State.setDrv .flushing (afterWire es n m s))) ∨
        ∃ e, flushFromIdle s = .raised e (State.setDrv .idle (State.setDrv .flushing (afterWire es n m s)))
          ∧ (e.kind = .busError ∨ e.kind = .timeoutError)
          ∧ ∀ u, FlushErrorAt s.cfg (endedWith e.kind (errinfoWord e.stage e.step) u)) := by
  obtain ⟨es, n, m, hp, h⟩ := (flushPanel_wire (State.setDrv .flushing s)).done_or_raised
  refine ⟨es, n, m, hp, ?_⟩
  rcases h with h | ⟨e, h, hk⟩
  · left
    rw [flushFromIdle, h]
    rfl
  · right
    refine ⟨e, ?_, hk, flushErrorAt_of_raised h rfl⟩
    rw [flushFromIdle, h]
    rfl

/-- The flush of FLUSH and RENDER without failure (42_panel_protocol.md R251 items 4 to 6). -/
theorem flushFromIdle_ok (s : State) (hx : TransfersOk s (flushTransfers s.cfg)) (hb : BusyReads1 s (listWaits s.cfg.turnOnSeq)) :
    flushFromIdle s = .done (State.setDrv .idle (State.setDrv .flushing
      (afterWire (flushEvents s.cfg (tbImage s)) (flushTransfers s.cfg) (listWaits s.cfg.turnOnSeq) s))) := by
  have h := flushPanel_ok (State.setDrv .flushing s) hx hb
  rw [flushFromIdle, h]
  rfl

/-! ## INIT from the configured bus on -/

/-- INIT after DRV_STATE has become BusReady: reset, init table, white image, flush (42_panel_protocol.md R249). -/
def initTail (s : State) : Res := Res.andThen (initPanel s) initFlush

theorem initDriver_eq (s : State) :
    initDriver s = Res.onError (Res.andThen (Res.andThen (allocate s) busConfigure) fun u => initTail (State.setDrv .busReady u))
      (State.setDrv .uninitialized) := by
  unfold initDriver initBus
  cases Res.andThen (allocate s) busConfigure <;> rfl

/-- INIT up to BusReady: a failed allocation and a failed configuration end it at once; else both are done and the rest runs
(42_panel_protocol.md R232, R233, R249). -/
theorem initDriver_cases (s : State) :
    (s.allocDone = false ∧ allocNow s = false
        ∧ initDriver s = .raised ⟨.allocationError, 0x05, 0⟩ (State.setDrv .uninitialized (State.tookAlloc s)))
      ∨ ∃ s1, (s1 = s ∧ s.allocDone = true ∨ s.allocDone = false ∧ allocNow s = true ∧ s1 = allocated (State.tookAlloc s)) ∧
          ((s.busReady = false ∧ busCfgNow s = false
              ∧ initDriver s = .raised ⟨.busError, 0x04, 0⟩ (State.setDrv .uninitialized (State.tookBusCfg s1)))
            ∨ ∃ s2, (s2 = s1 ∧ s.busReady = true
                  ∨ s.busReady = false ∧ busCfgNow s = true ∧ s2 = busConfigured (State.tookBusCfg s1)) ∧
                initDriver s = Res.onError (initTail (State.setDrv .busReady s2)) (State.setDrv .uninitialized)) := by
  rw [initDriver_eq]
  unfold allocate busConfigure
  cases ha : s.allocDone <;> cases hb : s.busReady <;> cases hc : allocNow s <;>
    simp [Res.andThen, Res.onError, allocated, State.tookAlloc, hb, ha] <;> (try cases hd : busCfgNow s) <;>
    simp_all [busCfgNow, State.tookBusCfg]

/-- Everything INIT can do from BusReady on: it stops in the init table, stops in the flush with a white image, or comes to Idle. -/
theorem initTail_cases (s : State) :
    (∃ es n m e, PartEvents s.cfg es ∧ (e.kind = .busError ∨ e.kind = .timeoutError)
        ∧ (∀ u, ListErrorAt 0x01 s.cfg.initTable (endedWith e.kind (errinfoWord e.stage e.step) u))
        ∧ initTail s = .raised e (afterWire (resetEvents ++ es) n m s))
      ∨ ∃ es n m, PartEvents s.cfg es ∧
          ((∃ e, (e.kind = .busError ∨ e.kind = .timeoutError)
              ∧ (∀ u, FlushErrorAt s.cfg (endedWith e.kind (errinfoWord e.stage e.step) u))
              ∧ initTail s = .raised e (State.setDrv .flushing (initWhite (State.setDrv .panelConfigured
                  (afterWire (resetEvents ++ es) n m s)))))
            ∨ initTail s = .done (State.setDrv .idle (State.setDrv .flushing (initWhite (State.setDrv .panelConfigured
                (afterWire (resetEvents ++ es) n m s)))))) := by
  obtain ⟨es, n, m, hp, h⟩ := (runSteps_wire 0x01 (resetPanel s).cfg.initTable 0 (resetPanel s)).done_or_raised
  have hc : (resetPanel s).cfg = s.cfg := by rw [resetPanel_eq_afterWire, afterWire_cfg]
  rw [hc] at hp
  rcases h with h | ⟨e, h, hk⟩
  · right
    have h1 : initPanel s = .done (State.setDrv .panelConfigured (afterWire (resetEvents ++ es) n m s)) := by
      unfold initPanel runInitTable
      rw [h, resetPanel_eq_afterWire, afterWire_afterWire]
      simp [Res.andThen]
    obtain ⟨es', n', m', hp', h'⟩ :=
      (flushPanel_wire (State.setDrv .flushing (initWhite (State.setDrv .panelConfigured
        (afterWire (resetEvents ++ es) n m s))))).done_or_raised
    refine ⟨es ++ es', n + n', m + m', hp.append hp', ?_⟩
    have e1 : afterWire es' n' m' (State.setDrv .flushing (initWhite (State.setDrv .panelConfigured
          (afterWire (resetEvents ++ es) n m s))))
        = State.setDrv .flushing (initWhite (State.setDrv .panelConfigured
          (afterWire (resetEvents ++ (es ++ es')) (n + n') (m + m') s))) := by
      rw [← List.append_assoc, ← afterWire_afterWire]
      rfl
    rw [e1] at h'
    rcases h' with h' | ⟨e, h', hk⟩
    · right
      rw [initTail, h1]
      show Res.andThen (flushPanel _) _ = _
      rw [h']
      rfl
    · left
      refine ⟨e, hk, flushErrorAt_of_raised h' rfl, ?_⟩
      rw [initTail, h1]
      show Res.andThen (flushPanel _) _ = _
      rw [h']
      rfl
  · left
    refine ⟨es, n, m, e, hp, hk, listErrorAt_of_raised h, ?_⟩
    have h1 : initPanel s = .raised e (afterWire (resetEvents ++ es) n m s) := by
      unfold initPanel runInitTable
      rw [h, resetPanel_eq_afterWire, afterWire_afterWire]
      simp [Res.andThen]
    rw [initTail, h1]
    rfl

end Sys2Proof.Machine
end

