-- ==== Sys2Proof/Laws/Exec.lean ====
section
/-! SUPPORT. Everything an operation can do, said once: the shapes a next state can have, and that `exec` always answers one of them. -/

namespace Sys2Proof.Machine

open Sys2Proof

/-- The shapes of the state `t` an operation `i` begun in `s` leaves. -/
inductive ExecShape (i : Instr) (s : State) : State → Prop where
  /-- it raised one of the errors of a check, and changed nothing else (60_exceptions.md R336, R340, R341) -/
  | refused (k : ErrKind) (hk : k = .illegalCommand ∨ k = .stateError ∨ k = .formatError) : ExecShape i s (endedWith k 0#32 s)
  /-- it wrote RESULT (30_encoding.md R118) -/
  | result (w : Word) (hi : producesResult i = true) : ExecShape i s (endedOk (State.setResult w s))
  /-- AUTO_DETECT wrote SIX_COLOR and RESULT (40_pixel_map.md R159) -/
  | detected (w : Word) (b : Bool) (hi : i = .autoDetect) : ExecShape i s (endedOk (State.setResult w (State.setSixColor b s)))
  /-- CLOSE in Closed (42_panel_protocol.md R250) -/
  | closedAgain (hi : i = .close) (hd : s.drv = .closed) : ExecShape i s (endedOk s)
  /-- CLOSE (42_panel_protocol.md R250) -/
  | closed (hi : i = .close) (hd : s.drv ≠ .closed) : ExecShape i s (endedOk (closeDriver s))
  /-- FB_CLEAR (41_framebuffer.md R201) -/
  | cleared (c : Nibble) (hi : i = .fbClear c) (ha : s.allocDone = true) : ExecShape i s (endedOk (clearFb c s))
  /-- FB_SET (41_framebuffer.md R203) -/
  | pixelSet (x : BitVec 10) (y : BitVec 9) (c : Nibble) (hi : i = .fbSet x y c) (ha : s.allocDone = true) (hx : x.toNat ≤ 799)
      (hy : y.toNat ≤ 479) : ExecShape i s (endedOk (setFbNib x.toNat y.toNat c s))
  /-- ROTATE (41_framebuffer.md R205) -/
  | rotated (b : Bool) (hi : i = .rotate) (ha : s.allocDone = true) : ExecShape i s (endedOk (rotateInto b s))
  /-- RESET_PANEL (42_panel_protocol.md R234) -/
  | panelReset (hi : i = .resetPanel) (hb : s.busReady = true) : ExecShape i s (endedOk (afterWire resetEvents 0 0 s))
  /-- one of the other protocol primitives (42_panel_protocol.md R236 to R246) -/
  | primitive (r : Res) (hi : producesResult i = false) (hc : i ≠ .close) (hb : s.busReady = true) (hr : WirePart s r) :
      ExecShape i s (Res.finish r)
  /-- FLUSH (42_panel_protocol.md R248) -/
  | flushed (hi : i = .flush) (hd : s.drv = .idle) : ExecShape i s (Res.finish (flushFromIdle s))
  /-- RENDER (43_render.md R292) -/
  | rendered (hi : i = .render) (hd : s.drv = .idle) : ExecShape i s (Res.finish (renderAndFlush s))
  /-- INIT (42_panel_protocol.md R249) -/
  | inited (hi : i = .init) (hd : s.drv ≠ .closed) : ExecShape i s (Res.finish (initDriver s))

theorem ExecShape.of_requireState {i : Instr} {s : State} {ok : Bool} {body : Res}
    (h : ok = true → ExecShape i s (Res.finish body)) : ExecShape i s (Res.finish (requireState ok s body)) := by
  cases ok
  · exact .refused .stateError (.inr (.inl rfl))
  · exact h rfl

theorem ExecShape.of_requireLegal {i : Instr} {s : State} {ok : Bool} {body : Res}
    (h : ok = true → ExecShape i s (Res.finish body)) : ExecShape i s (Res.finish (requireLegal ok s body)) := by
  cases ok
  · exact .refused .illegalCommand (.inl rfl)
  · exact h rfl

theorem ExecShape.of_requireSource {i : Instr} {s : State} {ok : Bool} {body : Res}
    (h : ok = true → ExecShape i s (Res.finish body)) : ExecShape i s (Res.finish (requireSource ok s body)) := by
  cases ok
  · exact .refused .formatError (.inr (.inr rfl))
  · exact h rfl

theorem onPanel_iff (x y : Nat) : onPanel x y = true ↔ x ≤ 799 ∧ y ≤ 479 := by simp [onPanel]

/-- Every operation answers a next state of one of the shapes. -/
theorem exec_shape (i : Instr) (s : State) : ∃ t, exec i s = .next t ∧ ExecShape i s t := by
  cases i with
  | init => exact ⟨_, rfl, .of_requireState fun h => .inited rfl (by simpa using h)⟩
  | render =>
    exact ⟨_, rfl, .of_requireLegal fun _ => .of_requireState fun h => .of_requireSource fun _ =>
      .rendered rfl (by simpa using h)⟩
  | flush => exact ⟨_, rfl, .of_requireState fun h => .flushed rfl (by simpa using h)⟩
  | close =>
    refine ⟨_, rfl, ?_⟩
    by_cases h : s.drv = .closed
    · rw [if_pos (by simpa using h)]
      exact .closedAgain rfl h
    · rw [if_neg (by simpa using h)]
      exact .closed rfl h
  | resetPanel =>
    refine ⟨_, rfl, .of_requireState fun h => ?_⟩
    rw [resetPanel_eq_afterWire]
    exact .panelReset rfl h
  | waitBusy stage timeout =>
    exact ⟨_, rfl, .of_requireState fun h => .primitive _ rfl (by simp) h (pollBusy_wire _ _ _ _)⟩
  | writeCmd byte => exact ⟨_, rfl, .of_requireState fun h => .primitive _ rfl (by simp) h (sendByte_wire _ _ _ _ _)⟩
  | writeData byte => exact ⟨_, rfl, .of_requireState fun h => .primitive _ rfl (by simp) h (sendByte_wire _ _ _ _ _)⟩
  | writeBuffer => exact ⟨_, rfl, .of_requireState fun h => .primitive _ rfl (by simp) h (sendBuffer_wire _ _)⟩
  | initSeq => exact ⟨_, rfl, .of_requireState fun h => .primitive _ rfl (by simp) h (runSteps_wire _ _ _ _)⟩
  | turnOnDisplay => exact ⟨_, rfl, .of_requireState fun h => .primitive _ rfl (by simp) h (runSteps_wire _ _ _ _)⟩
  | fbClear color => exact ⟨_, rfl, .of_requireState fun h => .cleared color rfl h⟩
  | fbGet x y => exact ⟨_, rfl, .of_requireLegal fun _ => .of_requireState fun _ => .result _ rfl⟩
  | fbSet x y c =>
    exact ⟨_, rfl, .of_requireLegal fun h => .of_requireState fun ha =>
      .pixelSet x y c rfl ha ((onPanel_iff _ _).1 h).1 ((onPanel_iff _ _).1 h).2⟩
  | rotate => exact ⟨_, rfl, .of_requireState fun h => .rotated _ rfl h⟩
  | quantize r g b => exact ⟨_, rfl, .result _ rfl⟩
  | matchColor r g b => exact ⟨_, rfl, .result _ rfl⟩
  | dither r g b => exact ⟨_, rfl, .of_requireLegal fun _ => .result _ rfl⟩
  | mapPixel r g b => exact ⟨_, rfl, .of_requireLegal fun _ => .result _ rfl⟩
  | orient x y t => exact ⟨_, rfl, .of_requireLegal fun _ => .result _ rfl⟩
  | autoDetect => exact ⟨_, rfl, .of_requireLegal fun _ => .of_requireSource fun _ => .detected _ _ rfl⟩
  | resolveOpts => exact ⟨_, rfl, .result _ rfl⟩

/-- The next state of an operation has one of the shapes. -/
theorem shape_of_exec {i : Instr} {s t : State} (h : exec i s = .next t) : ExecShape i s t := by
  obtain ⟨u, hu, hs⟩ := exec_shape i s
  rw [hu] at h
  injection h with h
  exact h ▸ hs

/-- What an operation `i` begun with DRV_STATE at `d` can write to it, in order (42_panel_protocol.md R230, 60_exceptions.md R329). -/
inductive DrvWrites (i : Instr) (d : DrvState) : List DrvState → Prop where
  /-- no other operation changes DRV_STATE, and these do not where a check fails -/
  | none : DrvWrites i d []
  /-- FLUSH and RENDER, error or not -/
  | flush (hi : i = .flush ∨ i = .render) (hd : d = .idle) : DrvWrites i d [.flushing, .idle]
  /-- CLOSE -/
  | close (hi : i = .close) (hd : d ≠ .closed) : DrvWrites i d [.closed]
  /-- INIT whose allocation or bus configuration fails -/
  | initBus (hi : i = .init) (hd : d ≠ .closed) : DrvWrites i d [.uninitialized]
  /-- INIT that fails in its table -/
  | initTable (hi : i = .init) (hd : d ≠ .closed) : DrvWrites i d [.busReady, .uninitialized]
  /-- INIT that fails in its flush -/
  | initFlush (hi : i = .init) (hd : d ≠ .closed) : DrvWrites i d [.busReady, .panelConfigured, .flushing, .uninitialized]
  /-- INIT that succeeds -/
  | init (hi : i = .init) (hd : d ≠ .closed) : DrvWrites i d [.busReady, .panelConfigured, .flushing, .idle]

/-- Every write of DRV_STATE an operation makes. -/
theorem ExecShape.drvWrites {i : Instr} {s t : State} (h : ExecShape i s t) :
    ∃ l, t.drvLog = s.drvLog ++ l ∧ DrvWrites i s.drv l := by
  cases h with
  | refused | result | detected | closedAgain | cleared | pixelSet | rotated | panelReset => exact ⟨[], (List.append_nil _).symm, .none⟩
  | closed hi hd => exact ⟨_, rfl, .close hi hd⟩
  | primitive r _ _ _ hr =>
    obtain ⟨es, n, m, -, rfl | ⟨e, rfl, -⟩⟩ := hr.done_or_raised <;> exact ⟨[], (List.append_nil _).symm, .none⟩
  | flushed hi hd =>
    obtain ⟨es, n, m, -, h | ⟨e, h, -⟩⟩ := flushFromIdle_cases s <;> rw [h] <;>
      exact ⟨_, List.append_assoc _ _ _, .flush (.inl hi) hd⟩
  | rendered hi hd =>
    unfold renderAndFlush
    obtain ⟨es, n, m, -, h | ⟨e, h, -⟩⟩ := flushFromIdle_cases (rotateInto (resolvedOpts s).rot180 (renderFb s)) <;> rw [h] <;>
      exact ⟨_, List.append_assoc _ _ _, .flush (.inr hi) hd⟩
  | inited hi hd =>
    rcases initDriver_cases s with ⟨-, -, h⟩ | ⟨s1, h1, ⟨-, -, h⟩ | ⟨s2, h2, h⟩⟩
    · rw [h]
      exact ⟨_, rfl, .initBus hi hd⟩
    · have e1 : s1.drvLog = s.drvLog := by rcases h1 with ⟨rfl, -⟩ | ⟨-, -, rfl⟩ <;> rfl
      rw [h, ← e1]
      exact ⟨_, rfl, .initBus hi hd⟩
    · have e2 : s2.drvLog = s.drvLog := by
        rcases h1 with ⟨rfl, -⟩ | ⟨-, -, rfl⟩ <;> rcases h2 with ⟨rfl, -⟩ | ⟨-, -, rfl⟩ <;> simp
      rw [h, ← e2]
      rcases initTail_cases (State.setDrv .busReady s2) with ⟨es, n, m, e, -, -, -, h⟩ | ⟨es, n, m, -, ⟨e, -, -, h⟩ | h⟩ <;>
        rw [h, afterWire_setDrv]
      · exact ⟨_, by simp [Res.onError, finish_raised, endedWith], .initTable hi hd⟩
      · exact ⟨_, by simp [Res.onError, finish_raised, endedWith, initWhite, rotateInto, clearFb], .initFlush hi hd⟩
      · exact ⟨_, by simp [Res.onError, finish_done, endedOk, initWhite, rotateInto, clearFb], .init hi hd⟩

/-- What a step that answers a next state was: the host's, during an operation or between two, or the engine's. -/
theorem step_cases {s t : State} (h : step s = .next t) :
    (s.opActive = true ∧ hostIntrudes s = true ∧ hostTurnDuring s = .next t)
      ∨ (s.opActive = true ∧ hostIntrudes s = false ∧ runCommand s = .next t)
      ∨ (s.opActive = false ∧ t = hostTurnBetween s) := by
  unfold step at h
  split_ifs at h with h1 h2 h3 h4
  · exact .inl ⟨h3, h4, h⟩
  · exact .inr (.inl ⟨h3, by simpa using h4, h⟩)
  · refine .inr (.inr ⟨by simpa using h3, ?_⟩)
    injection h with h
    exact h.symm

/-- The engine's part of a step ends an operation with one of the shapes, or refuses the command word. -/
theorem runCommand_cases {s t : State} (h : runCommand s = .next t) :
    (∃ i, decode s.cmd = .ok i ∧ ExecShape i s t) ∨ t = endedWith .illegalCommand 0#32 s := by
  unfold runCommand commandWord at h
  cases hd : decode s.cmd with
  | ok i =>
    rw [hd] at h
    exact .inl ⟨i, rfl, shape_of_exec h⟩
  | error e =>
    rw [hd] at h
    injection h with h
    exact .inr h.symm

end Sys2Proof.Machine
end

