-- ==== Sys2Proof/Laws/HostPort.lean ====
section
/-! SUPPORT. No operation sees the host's side of the machine, and what a register read during an operation can find: the registers as they
were when the operation began, and DRV_STATE at a point of its course that no read before it has passed. -/

namespace Sys2Proof.Machine

open Sys2Proof

/-! ## The host's side of a state -/

/-- The state with another host's side: pending actions, the word last read, BUSY_IN's levels, and what reads during operations have found. -/
def State.withHostSide (h : List HostEvent) (d : Word) (b : Draws) (m n : Nat) (s : State) : State :=
  { s with host := h, hostData := d, busyIn := b, midReads := m, drvSeen := n }

/-- The outcome with another host's side. -/
def Res.withHostSide (h : List HostEvent) (d : Word) (b : Draws) (m n : Nat) : Res → Res
  | .done s => .done (State.withHostSide h d b m n s)
  | .raised e s => .raised e (State.withHostSide h d b m n s)

section
variable {h : List HostEvent} {d : Word} {b : Draws} {m n : Nat}

theorem andThen_withHostSide {r : Res} {f : State → Res}
    (hf : ∀ u, f (State.withHostSide h d b m n u) = Res.withHostSide h d b m n (f u)) :
    Res.andThen (Res.withHostSide h d b m n r) f = Res.withHostSide h d b m n (Res.andThen r f) := by
  cases r with
  | done u => exact hf u
  | raised e u => rfl

theorem onError_withHostSide {r : Res} {f : State → State}
    (hf : ∀ u, f (State.withHostSide h d b m n u) = State.withHostSide h d b m n (f u)) :
    Res.onError (Res.withHostSide h d b m n r) f = Res.withHostSide h d b m n (Res.onError r f) := by
  cases r with
  | done u => rfl
  | raised e u => exact congrArg (Res.raised e) (hf u)

theorem finish_withHostSide (r : Res) :
    Res.finish (Res.withHostSide h d b m n r) = State.withHostSide h d b m n (Res.finish r) := by
  cases r <;> rfl

theorem ite_withHostSide {p : Prop} [Decidable p] (r r' : Res) :
    (if p then Res.withHostSide h d b m n r else Res.withHostSide h d b m n r') = Res.withHostSide h d b m n (if p then r else r') := by
  split <;> rfl

theorem setPin_withHostSide (p : Pin) (v : Level) (s : State) :
    State.setPin p v (State.withHostSide h d b m n s) = State.withHostSide h d b m n (State.setPin p v s) := by
  cases p <;> rfl

theorem resetPanel_withHostSide (s : State) :
    resetPanel (State.withHostSide h d b m n s) = State.withHostSide h d b m n (resetPanel s) := by
  rw [resetPanel_eq_afterWire, resetPanel_eq_afterWire]
  rfl

theorem sendByte_withHostSide (dc : Level) (v stage : Byte) (j : Nat) (s : State) :
    sendByte dc v stage j (State.withHostSide h d b m n s) = Res.withHostSide h d b m n (sendByte dc v stage j s) := by
  rw [sendByte_eq, sendByte_eq, ← ite_withHostSide]
  rfl

theorem sendChunks_withHostSide (stage : Byte) (cs : List (List Byte)) (k : Nat) (s : State) :
    sendChunks stage cs k (State.withHostSide h d b m n s) = Res.withHostSide h d b m n (sendChunks stage cs k s) := by
  induction cs generalizing k s with
  | nil => exact congrArg Res.done (setPin_withHostSide _ _ s)
  | cons c rest ih =>
    rw [sendChunks, sendChunks, ← ite_withHostSide, ← ih]
    rfl

theorem sendBuffer_withHostSide (stage : Byte) (s : State) :
    sendBuffer stage (State.withHostSide h d b m n s) = Res.withHostSide h d b m n (sendBuffer stage s) := by
  rw [sendBuffer, sendBuffer, setPin_withHostSide, setPin_withHostSide, sendChunks_withHostSide]
  rfl

theorem pollBusy_withHostSide (stage : Byte) (j left : Nat) (s : State) :
    pollBusy stage j left (State.withHostSide h d b m n s) = Res.withHostSide h d b m n (pollBusy stage j left s) := by
  induction left generalizing s with
  | zero =>
    rw [pollBusy, pollBusy, ← ite_withHostSide]
    rfl
  | succ left ih =>
    rw [pollBusy, pollBusy, ← ite_withHostSide, ← ih]
    rfl

theorem writeDataBytes_withHostSide (stage : Byte) (j : Nat) (l : List Byte) (s : State) :
    writeDataBytes stage j l (State.withHostSide h d b m n s) = Res.withHostSide h d b m n (writeDataBytes stage j l s) := by
  induction l generalizing s with
  | nil => rfl
  | cons v rest ih =>
    rw [writeDataBytes, writeDataBytes, ← andThen_withHostSide ih, writeDataByte, writeDataByte, ← sendByte_withHostSide]
    rfl

theorem runStep_withHostSide (stage : Byte) (j : Nat) (st : InitStep) (s : State) :
    runStep stage j st (State.withHostSide h d b m n s) = Res.withHostSide h d b m n (runStep stage j st s) := by
  cases st with
  | cmd c l =>
    rw [runStep, runStep, ← andThen_withHostSide (writeDataBytes_withHostSide stage j l), writeCommand, writeCommand,
      ← sendByte_withHostSide]
    rfl
  | wait t => exact pollBusy_withHostSide stage j (t / 10) s
  | delayMs t => rfl

theorem runSteps_withHostSide (stage : Byte) (l : List InitStep) (j : Nat) (s : State) :
    runSteps stage l j (State.withHostSide h d b m n s) = Res.withHostSide h d b m n (runSteps stage l j s) := by
  induction l generalizing j s with
  | nil => rfl
  | cons st rest ih => rw [runSteps, runSteps, ← andThen_withHostSide (ih (j + 1)), runStep_withHostSide]

theorem runTurnOn_withHostSide (s : State) :
    runTurnOn (State.withHostSide h d b m n s) = Res.withHostSide h d b m n (runTurnOn s) := runSteps_withHostSide _ _ _ s

theorem flushPanel_withHostSide (s : State) :
    flushPanel (State.withHostSide h d b m n s) = Res.withHostSide h d b m n (flushPanel s) := by
  rw [flushPanel, flushPanel, ← andThen_withHostSide runTurnOn_withHostSide, ← andThen_withHostSide (sendBuffer_withHostSide 0x03),
    writeCommand, writeCommand, ← sendByte_withHostSide]
  rfl

theorem flushFromIdle_withHostSide (s : State) :
    flushFromIdle (State.withHostSide h d b m n s) = Res.withHostSide h d b m n (flushFromIdle s) := by
  rw [flushFromIdle, flushFromIdle, ← andThen_withHostSide (fun _ => rfl), ← onError_withHostSide (f := State.setDrv .idle) (fun _ => rfl),
    ← flushPanel_withHostSide]
  rfl

theorem initTail_withHostSide (s : State) :
    initTail (State.withHostSide h d b m n s) = Res.withHostSide h d b m n (initTail s) := by
  have h1 : ∀ u, initFlush (State.withHostSide h d b m n u) = Res.withHostSide h d b m n (initFlush u) := fun u => by
    rw [initFlush, initFlush, ← andThen_withHostSide (fun _ => rfl), ← flushPanel_withHostSide]
    rfl
  rw [initTail, initTail, ← andThen_withHostSide h1, initPanel, initPanel, ← andThen_withHostSide (fun _ => rfl), runInitTable,
    runInitTable, ← runSteps_withHostSide, resetPanel_withHostSide]
  rfl

theorem initDriver_withHostSide (s : State) :
    initDriver (State.withHostSide h d b m n s) = Res.withHostSide h d b m n (initDriver s) := by
  have h1 : ∀ u, busConfigure (State.withHostSide h d b m n u) = Res.withHostSide h d b m n (busConfigure u) := fun u => by
    rw [busConfigure, busConfigure, ← ite_withHostSide, ← ite_withHostSide]
    rfl
  have h2 : allocate (State.withHostSide h d b m n s) = Res.withHostSide h d b m n (allocate s) := by
    rw [allocate, allocate, ← ite_withHostSide, ← ite_withHostSide]
    rfl
  rw [initDriver_eq, initDriver_eq, ← onError_withHostSide (f := State.setDrv .uninitialized) (fun _ => rfl),
    ← andThen_withHostSide (fun u => initTail_withHostSide (State.setDrv .busReady u)), ← andThen_withHostSide h1, h2]

theorem requireState_withHostSide (ok : Bool) (s : State) (body : Res) :
    requireState ok (State.withHostSide h d b m n s) (Res.withHostSide h d b m n body)
      = Res.withHostSide h d b m n (requireState ok s body) := by
  cases ok <;> rfl

theorem requireLegal_withHostSide (ok : Bool) (s : State) (body : Res) :
    requireLegal ok (State.withHostSide h d b m n s) (Res.withHostSide h d b m n body)
      = Res.withHostSide h d b m n (requireLegal ok s body) := by
  cases ok <;> rfl

theorem requireSource_withHostSide (ok : Bool) (s : State) (body : Res) :
    requireSource ok (State.withHostSide h d b m n s) (Res.withHostSide h d b m n body)
      = Res.withHostSide h d b m n (requireSource ok s body) := by
  cases ok <;> rfl

theorem outcome_withHostSide {r r' : Res} {t : State} (hr : r' = Res.withHostSide h d b m n r) (hx : outcome r = .next t) :
    outcome r' = .next (State.withHostSide h d b m n t) := by
  injection hx with hx
  rw [outcome_eq, hr, finish_withHostSide, hx]

/-- No operation sees the host's side of the machine, or changes it. -/
theorem exec_withHostSide {i : Instr} {s t : State} (hx : exec i s = .next t) :
    exec i (State.withHostSide h d b m n s) = .next (State.withHostSide h d b m n t) := by
  cases i with
  | init =>
    refine outcome_withHostSide ?_ hx
    rw [← requireState_withHostSide, ← initDriver_withHostSide]
    rfl
  | render =>
    refine outcome_withHostSide ?_ hx
    rw [← requireLegal_withHostSide, ← requireState_withHostSide, ← requireSource_withHostSide, renderAndFlush, renderAndFlush,
      ← flushFromIdle_withHostSide]
    rfl
  | flush =>
    refine outcome_withHostSide ?_ hx
    rw [← requireState_withHostSide, ← flushFromIdle_withHostSide]
    rfl
  | close =>
    refine outcome_withHostSide ?_ hx
    show Res.done (if s.drv == .closed then _ else _) = Res.done (State.withHostSide _ _ _ _ _ (if s.drv == .closed then _ else _))
    split <;> rfl
  | resetPanel =>
    refine outcome_withHostSide ?_ hx
    rw [← requireState_withHostSide, resetPanel_withHostSide]
    rfl
  | waitBusy stage timeout =>
    refine outcome_withHostSide ?_ hx
    rw [← requireState_withHostSide, waitBusy, waitBusy, ← pollBusy_withHostSide]
    rfl
  | writeCmd v =>
    refine outcome_withHostSide ?_ hx
    rw [← requireState_withHostSide, writeCommand, writeCommand, ← sendByte_withHostSide]
    rfl
  | writeData v =>
    refine outcome_withHostSide ?_ hx
    rw [← requireState_withHostSide, writeDataByte, writeDataByte, ← sendByte_withHostSide]
    rfl
  | writeBuffer =>
    refine outcome_withHostSide ?_ hx
    rw [← requireState_withHostSide, ← sendBuffer_withHostSide]
    rfl
  | initSeq =>
    refine outcome_withHostSide ?_ hx
    rw [← requireState_withHostSide, runInitTable, runInitTable, ← runSteps_withHostSide]
    rfl
  | turnOnDisplay =>
    refine outcome_withHostSide ?_ hx
    rw [← requireState_withHostSide, ← runTurnOn_withHostSide]
    rfl
  | fbClear c | rotate =>
    refine outcome_withHostSide ?_ hx
    rw [← requireState_withHostSide]
    rfl
  | fbGet x y | fbSet x y c =>
    refine outcome_withHostSide ?_ hx
    rw [← requireLegal_withHostSide, ← requireState_withHostSide]
    rfl
  | dither r g b | mapPixel r g b | orient x y t =>
    refine outcome_withHostSide ?_ hx
    rw [← requireLegal_withHostSide]
    rfl
  | autoDetect =>
    refine outcome_withHostSide ?_ hx
    rw [← requireLegal_withHostSide, ← requireSource_withHostSide]
    rfl
  | quantize r g b | matchColor r g b | resolveOpts => exact outcome_withHostSide rfl hx

end

/-! ## Register reads during an operation -/

/-- The state a register read leaves is the old one with another host's side. -/
theorem midRead_eq (off : Word) (s : State) :
    midRead off s = State.withHostSide s.host (midRegisterWord s (busyInNow s) off)
      (if off = 0x04#32 then Draws.advance s.busyIn else s.busyIn) (s.midReads + 1)
      (if off = 0x04#32 then drvPoint s else s.drvSeen) s := by
  unfold midRead lookedAtProgress
  split <;> rfl

/-- A register read leaves the operation in progress its course. -/
theorem runCommand_withHostSide {h : List HostEvent} {d : Word} {b : Draws} {m n : Nat} {s t : State} (hx : runCommand s = .next t) :
    runCommand (State.withHostSide h d b m n s) = .next (State.withHostSide h d b m n t) := by
  unfold runCommand at hx ⊢
  show (match decode (commandWord s) with
    | .ok i => exec i (State.withHostSide h d b m n s)
    | .error _ => outcome (illegalCommand (State.withHostSide h d b m n s))) = _
  cases hd : decode (commandWord s) with
  | ok i =>
    rw [hd] at hx
    exact exec_withHostSide hx
  | error e =>
    rw [hd] at hx
    exact outcome_withHostSide rfl hx

/-- Every command word runs to a next state. -/
theorem runCommand_next (s : State) : ∃ t, runCommand s = .next t := by
  unfold runCommand
  cases decode (commandWord s) with
  | ok i =>
    obtain ⟨t, ht, -⟩ := exec_shape i s
    exact ⟨t, ht⟩
  | error e => exact ⟨_, rfl⟩

/-- The course of DRV_STATE is that of the operation's own writes. -/
theorem drvCourse_eq {s t : State} (hx : runCommand s = .next t) : drvCourse s = s.drv :: t.drvLog.drop s.drvLog.length := by
  unfold drvCourse
  rw [hx]

/-- What the operation in progress writes to DRV_STATE, and so its course: the writes its operation makes, or none where its word does not
decode. -/
theorem drvCourse_cases (s : State) :
    ∃ t l, runCommand s = .next t ∧ t.drvLog = s.drvLog ++ l ∧ drvCourse s = s.drv :: l
      ∧ ((∃ i, decode s.cmd = .ok i ∧ exec i s = .next t ∧ DrvWrites i s.drv l) ∨ (∃ e, decode s.cmd = .error e) ∧ l = []) := by
  obtain ⟨t, ht⟩ := runCommand_next s
  have hl : ∀ l, t.drvLog = s.drvLog ++ l → drvCourse s = s.drv :: l := fun l h => by
    rw [drvCourse_eq ht, h, List.drop_left]
  have hx := ht
  unfold runCommand commandWord at hx
  cases hd : decode s.cmd with
  | ok i =>
    rw [hd] at hx
    obtain ⟨l, h, hw⟩ := (shape_of_exec hx).drvWrites
    exact ⟨t, l, ht, h, hl l h, .inl ⟨i, rfl, hx, hw⟩⟩
  | error e =>
    rw [hd] at hx
    injection hx with hx
    have h : t.drvLog = s.drvLog ++ [] := by rw [← hx, List.append_nil]; rfl
    exact ⟨t, [], ht, h, hl [] h, .inr ⟨⟨e, rfl⟩, rfl⟩⟩

/-- A register read leaves the course of DRV_STATE. -/
theorem drvCourse_midRead (off : Word) (s : State) : drvCourse (midRead off s) = drvCourse s := by
  obtain ⟨t, ht⟩ := runCommand_next s
  rw [drvCourse_eq ht, midRead_eq, drvCourse_eq (runCommand_withHostSide ht)]
  rfl

/-- A read finds DRV_STATE at a point of the operation's course. -/
theorem drvInProgress_eq (s : State) : (drvCourse s)[drvPoint s - s.drvLog.length]? = some (drvInProgress s) := by
  obtain ⟨t, ht⟩ := runCommand_next s
  have hl : 0 < (drvCourse s).length := by
    rw [drvCourse_eq ht]
    exact Nat.succ_pos _
  have hlt : drvPoint s - s.drvLog.length < (drvCourse s).length := by
    unfold drvPoint
    omega
  unfold drvInProgress
  rw [List.getElem?_eq_getElem hlt, Option.getD_some]

/-- RESULT reads as before the operation (20_memory.md R87). -/
theorem midRead_result (s : State) : (midRead 0x08#32 s).hostData = s.result := rfl

/-- ERRINFO reads as before the operation (20_memory.md R87). -/
theorem midRead_errinfo (s : State) : (midRead 0x0C#32 s).hostData = s.errinfo := rfl

/-- EFFOPT reads as before the operation (20_memory.md R87). -/
theorem midRead_effopt (s : State) : (midRead 0x24#32 s).hostData = s.effopt := rfl

/-- STATUS reads as before the operation, BUSY_IN live, but for DRV_STATE (20_memory.md R87). -/
theorem midRead_status (s : State) :
    (midRead 0x04#32 s).hostData = statusWord { statusFields s (busyInNow s) with drv := drvInProgress s } := rfl

/-- The point a read finds lies in the operation in progress, and no earlier than the point the last read found, where that one lay in it. -/
theorem drvPoint_bounds (s : State) :
    s.drvLog.length ≤ drvPoint s ∧ drvPoint s ≤ s.drvLog.length + ((drvCourse s).length - 1)
      ∧ (s.drvSeen ≤ s.drvLog.length + ((drvCourse s).length - 1) → s.drvSeen ≤ drvPoint s) := by
  unfold drvPoint
  omega

end Sys2Proof.Machine
end

