-- ==== Sys2Proof/Laws/PerInstr.lean ====
section
/-! SUPPORT. A statement about every operation as syntax, proved per constructor: bits 31:24 of the word the encoder writes are the opcode
of the operation's row of the opcode map (30_encoding.md R110, R119). -/

namespace Sys2Proof.Laws.OpcodeOfEncoding

open Sys2Proof

/-- The encoded word carries the opcode of its row (30_encoding.md R110, R119). -/
def Statement (i : Instr) : Prop := opcField (encode i) = opcField (rowOf i).1

theorem opcField_encodeN (opc : BitVec 8) : opcField (encodeN opc) = opc := by
  unfold opcField encodeN
  grind

theorem opcField_encodeB (opc : BitVec 8) (byte : Byte) : opcField (encodeB opc byte) = opc := by
  unfold opcField encodeB
  grind

theorem opcField_encodeC (opc : BitVec 8) (color : Nibble) : opcField (encodeC opc color) = opc := by
  unfold opcField encodeC
  grind

theorem opcField_encodeP (opc : BitVec 8) (t : Bool) (c : Nibble) (y : BitVec 9) (x : BitVec 10) :
    opcField (encodeP opc t c y x) = opc := by
  unfold opcField encodeP
  grind

theorem opcField_encodeRgb (opc r g b : BitVec 8) : opcField (encodeRgb opc r g b) = opc := by
  unfold opcField encodeRgb
  grind

theorem opcField_encodeW (opc stage : BitVec 8) (timeout : BitVec 16) : opcField (encodeW opc stage timeout) = opc := by
  unfold opcField encodeW
  grind

theorem init : Statement .init := (opcField_encodeN 0x01#8).trans (by decide)
theorem render : Statement .render := (opcField_encodeN 0x02#8).trans (by decide)
theorem flush : Statement .flush := (opcField_encodeN 0x03#8).trans (by decide)
theorem close : Statement .close := (opcField_encodeN 0x04#8).trans (by decide)
theorem resetPanel : Statement .resetPanel := (opcField_encodeN 0x10#8).trans (by decide)
theorem waitBusy (stage : BitVec 8) (timeout : BitVec 16) : Statement (.waitBusy stage timeout) :=
  (opcField_encodeW 0x11#8 _ _).trans (by simp only [rowOf]; decide)
theorem writeCmd (byte : Byte) : Statement (.writeCmd byte) :=
  (opcField_encodeB 0x12#8 _).trans (by simp only [rowOf]; decide)
theorem writeData (byte : Byte) : Statement (.writeData byte) :=
  (opcField_encodeB 0x13#8 _).trans (by simp only [rowOf]; decide)
theorem writeBuffer : Statement .writeBuffer := (opcField_encodeN 0x14#8).trans (by decide)
theorem initSeq : Statement .initSeq := (opcField_encodeN 0x15#8).trans (by decide)
theorem turnOnDisplay : Statement .turnOnDisplay := (opcField_encodeN 0x16#8).trans (by decide)
theorem fbClear (color : Nibble) : Statement (.fbClear color) :=
  (opcField_encodeC 0x20#8 _).trans (by simp only [rowOf]; decide)
theorem fbGet (x : BitVec 10) (y : BitVec 9) : Statement (.fbGet x y) :=
  (opcField_encodeP 0x21#8 _ _ _ _).trans (by simp only [rowOf]; decide)
theorem fbSet (x : BitVec 10) (y : BitVec 9) (c : Nibble) : Statement (.fbSet x y c) :=
  (opcField_encodeP 0x22#8 _ _ _ _).trans (by simp only [rowOf]; decide)
theorem rotate : Statement .rotate := (opcField_encodeN 0x23#8).trans (by decide)
theorem quantize (r g b : Byte) : Statement (.quantize r g b) :=
  (opcField_encodeRgb 0x30#8 _ _ _).trans (by simp only [rowOf]; decide)
theorem matchColor (r g b : Byte) : Statement (.matchColor r g b) :=
  (opcField_encodeRgb 0x31#8 _ _ _).trans (by simp only [rowOf]; decide)
theorem dither (r g b : Byte) : Statement (.dither r g b) :=
  (opcField_encodeRgb 0x32#8 _ _ _).trans (by simp only [rowOf]; decide)
theorem mapPixel (r g b : Byte) : Statement (.mapPixel r g b) :=
  (opcField_encodeRgb 0x33#8 _ _ _).trans (by simp only [rowOf]; decide)
theorem orient (x : BitVec 10) (y : BitVec 9) (t : Bool) : Statement (.orient x y t) :=
  (opcField_encodeP 0x34#8 _ _ _ _).trans (by simp only [rowOf]; decide)
theorem autoDetect : Statement .autoDetect := (opcField_encodeN 0x35#8).trans (by decide)
theorem resolveOpts : Statement .resolveOpts := (opcField_encodeN 0x36#8).trans (by decide)

end Sys2Proof.Laws.OpcodeOfEncoding
end

