-- ==== Sys2Proof/Tests/Slice0.lean ====
section
/-! SUPPORT. The model's own tests. Expected results are those of 95_test_vectors.md (the vector's name is in the theorem's name or
comment) or of the rule cited; the decode words are written out from the formats of 30_encoding.md. At the end, for each statement with
hypotheses, states and operands that meet them. -/

namespace Sys2Proof.Tests

open Sys2Proof Sys2Proof.Machine

set_option Elab.async false

/-! ## Small states -/

/-- The state a word's operation leaves, run as the next step. -/
def runWord (w : Nat) (s : State) : State :=
  match step (s.withFetchWord 32 w) with
  | .next t => t
  | .fault _ => s
  | .refused _ => s

/-- The state the host's action leaves, taken as the next step. -/
def hostDoes (a : HostAction) (s : State) : State :=
  match step { s with host := [⟨false, a⟩] } with
  | .next t => t
  | .fault _ => s
  | .refused _ => s

/-- A configured bus and allocated buffers, with the transfer outcomes `xs` and the BUSY levels `bs` to come. -/
def onBus (xs bs : List Bool) : State :=
  { State.reset with
    allocDone := true, busReady := true, pinRst := some true, pinDc := some true, pinCs := some true, xfer := ⟨xs, 0⟩, busy := ⟨bs, 0⟩ }

/-- The same, in Idle. -/
def inIdle (xs bs : List Bool) : State := { onBus xs bs with drv := .idle }

/-- The same, Closed. -/
def inClosed : State := { State.reset with drv := .closed }

/-- A source that is the colour (r, g, b) everywhere. -/
def solid (r g b : Byte) : Raster := ⟨some ⟨r, g, b⟩, []⟩

/-! ## Well-formedness: an ill-formed term for each check (30_encoding.md R121) -/

theorem test_wf_fbGet_x : Instr.wf (.fbGet 800 0) = false := by decide
theorem test_wf_fbGet_y : Instr.wf (.fbGet 0 480) = false := by decide
theorem test_wf_fbSet_x : Instr.wf (.fbSet 800 0 1) = false := by decide
theorem test_wf_fbSet_y : Instr.wf (.fbSet 0 480 1) = false := by decide
theorem test_wf_orient_x : Instr.wf (.orient 1023 0 true) = false := by decide
theorem test_wf_orient_y : Instr.wf (.orient 0 511 false) = false := by decide
theorem test_wf_corner : Instr.wf (.fbGet 799 479) = true := by decide

/-! ## Decoding: a word for every row, written out from its format (30_encoding.md R111 to R116, R119) -/

theorem test_decode_init : decode 0b00000001_000000000000000000000000#32 = .ok .init := by decide
theorem test_decode_render : decode 0b00000010_000000000000000000000000#32 = .ok .render := by decide
theorem test_decode_flush : decode 0b00000011_000000000000000000000000#32 = .ok .flush := by decide
theorem test_decode_close : decode 0b00000100_000000000000000000000000#32 = .ok .close := by decide
theorem test_decode_resetPanel : decode 0b00010000_000000000000000000000000#32 = .ok .resetPanel := by decide
theorem test_decode_waitBusy : decode 0b00010001_10000001_1000000000000010#32 = .ok (.waitBusy 0x81 0x8002) := by decide
theorem test_decode_writeCmd : decode 0b00010010_0000000000000000_10000001#32 = .ok (.writeCmd 0x81) := by decide
theorem test_decode_writeData : decode 0b00010011_0000000000000000_10000001#32 = .ok (.writeData 0x81) := by decide
theorem test_decode_writeBuffer : decode 0b00010100_000000000000000000000000#32 = .ok .writeBuffer := by decide
theorem test_decode_initSeq : decode 0b00010101_000000000000000000000000#32 = .ok .initSeq := by decide
theorem test_decode_turnOnDisplay : decode 0b00010110_000000000000000000000000#32 = .ok .turnOnDisplay := by decide
theorem test_decode_fbClear : decode 0b00100000_00000000000000000000_1001#32 = .ok (.fbClear 9) := by decide
theorem test_decode_fbGet : decode 0b00100001_0_0000_100000001_1000000010#32 = .ok (.fbGet 514 257) := by decide
theorem test_decode_fbSet : decode 0b00100010_0_1010_100000001_1000000010#32 = .ok (.fbSet 514 257 10) := by decide
theorem test_decode_rotate : decode 0b00100011_000000000000000000000000#32 = .ok .rotate := by decide
theorem test_decode_quantize : decode 0b00110000_10000001_01000010_00100100#32 = .ok (.quantize 0x81 0x42 0x24) := by decide
theorem test_decode_matchColor : decode 0b00110001_10000001_01000010_00100100#32 = .ok (.matchColor 0x81 0x42 0x24) := by decide
theorem test_decode_dither : decode 0b00110010_10000001_01000010_00100100#32 = .ok (.dither 0x81 0x42 0x24) := by decide
theorem test_decode_mapPixel : decode 0b00110011_10000001_01000010_00100100#32 = .ok (.mapPixel 0x81 0x42 0x24) := by decide
theorem test_decode_orient : decode 0b00110100_1_0000_100000001_1000000010#32 = .ok (.orient 514 257 true) := by decide
theorem test_decode_autoDetect : decode 0b00110101_000000000000000000000000#32 = .ok .autoDetect := by decide
theorem test_decode_resolveOpts : decode 0b00110110_000000000000000000000000#32 = .ok .resolveOpts := by decide

/-- Vectors E1 to E3: unassigned opcodes. -/
theorem test_decode_unassigned :
    decode 0x00000000#32 = .error (.unknownOpcode 0x00) ∧ decode 0x05000000#32 = .error (.unknownOpcode 0x05)
      ∧ decode 0xFF123456#32 = .error (.unknownOpcode 0xFF) := by decide

/-- Vectors E4 to E7, E10, E11: reserved bits. -/
theorem test_decode_reserved :
    decode 0x01000001#32 = .error (.reservedBits 0x01) ∧ decode 0x20000010#32 = .error (.reservedBits 0x20)
      ∧ decode 0x21080000#32 = .error (.reservedBits 0x21) ∧ decode 0x22800000#32 = .error (.reservedBits 0x22)
      ∧ decode 0x34080000#32 = .error (.reservedBits 0x34) ∧ decode 0x12000100#32 = .error (.reservedBits 0x12) := by decide

/-- No two rows of the opcode map overlap: some bit both masks cover differs (30_encoding.md R119). -/
theorem test_rows_disjoint : opcodeRows.Pairwise (fun a b => a.1 &&& (a.2 &&& b.2) ≠ b.1 &&& (a.2 &&& b.2)) := by decide

/-! ## Reset and the host's registers -/

theorem test_refConfig_wf : configWf refConfig = true := by decide +kernel

/-- 10_state.md R57: STATUS after construction, BUSY reading 0. -/
theorem test_reset_status : (hostDoes (.read 0x04) { State.reset with busyIn := ⟨[false], 0⟩ }).hostData = 0x00000000#32 := by
  decide +kernel

/-- Program P2 step 3: STATUS in Idle with BUSY reading 1. -/
theorem test_read_status : (hostDoes (.read 0x04) { inIdle [] [] with busyIn := ⟨[true], 0⟩ }).hostData = 0x0000005C#32 := by
  decide +kernel

theorem test_write_arg4 : (hostDoes (.write 0x20 0xFFFFFFFB) State.reset).arg4 = 0xFFFFFFFB#32 := by decide +kernel

/-- 10_state.md R38, R59: a CMD write during an operation is HOST_OVERLAP, and the marked machine stops. -/
theorem test_overlap :
    (match step { onBus [] [] with opActive := true, host := [⟨true, .write 0x00 0x01000000⟩] } with
      | .next t => decide (t.hostOverlap = true) | _ => false) = true := by decide +kernel

/-- 10_state.md R40: a RESULT read while a FLUSH runs returns the old RESULT. -/
theorem test_read_result_during_flush :
    (midRead 0x08 { inIdle [] [] with opActive := true, cmd := 0x03000000, result := 0x00000303 }).hostData = 0x00000303#32 := rfl

/-- 42_panel_protocol.md R230: the values of DRV_STATE in an INIT that succeeds (vector IN1), in one whose allocation fails (IN2) and in a
FLUSH whose first transfer fails (FL2). -/
theorem test_drvCourse :
    drvCourse { State.reset with
          cmd := 0x01000000, alloc := ⟨[true], 0⟩, busCfg := ⟨[true], 0⟩, xfer := ⟨List.replicate 99 true, 0⟩,
          busy := ⟨List.replicate 5 true, 0⟩ }
        = [.uninitialized, .busReady, .panelConfigured, .flushing, .idle]
      ∧ drvCourse { State.reset with cmd := 0x01000000, alloc := ⟨[false], 0⟩ } = [.uninitialized, .uninitialized]
      ∧ drvCourse { inIdle [false] [] with cmd := 0x03000000 } = [.idle, .flushing, .idle] := by decide +kernel

/-- 20_memory.md R87, R89: in a CLOSE where a read of STATUS has found Closed, the next one finds Closed, the buffers and the bus as before. -/
theorem test_status_never_goes_back :
    (midRead 0x04 { inIdle [] [] with opActive := true, cmd := 0x04000000, drvSeen := 1, busyIn := ⟨[true], 0⟩ }).hostData
      = 0x000000DD#32 := by
  have h : drvInProgress { inIdle [] [] with opActive := true, cmd := 0x04000000, drvSeen := 1, busyIn := ⟨[true], 0⟩ } = .closed := by
    have hp : drvPoint { inIdle [] [] with opActive := true, cmd := 0x04000000, drvSeen := 1, busyIn := ⟨[true], 0⟩ } = 1 := by
      show min (1 + Config.midAdvance 0) 1 = 1
      omega
    rw [drvInProgress, hp]
    decide +kernel
  unfold midRead midRegisterWord
  rw [h]
  decide +kernel

/-- 20_memory.md R92: REFCFG sends a byte most significant bit first. -/
theorem test_wireBits : wireBits refConfig 0x61 = [false, true, true, false, false, false, false, true] := by decide

/-! ## Lifecycle -/

/-- Vector IN1: the number of events and the state in the end. -/
theorem test_init :
    let t := runWord 0x01000000
      { State.reset with alloc := ⟨[true], 0⟩, busCfg := ⟨[true], 0⟩, xfer := ⟨List.replicate 99 true, 0⟩, busy := ⟨List.replicate 5 true, 0⟩ }
    (t.trace.length, t.drv, t.allocDone, t.busReady, t.err) = (297, .idle, true, true, .ok) := by decide +kernel

/-- Vectors IN2 and IN3: the allocation fails, the bus configuration fails. -/
theorem test_init_fails :
    (let t := runWord 0x01000000 { State.reset with alloc := ⟨[false], 0⟩ }
     (t.err, t.errinfo, t.drv, t.allocDone, t.trace) = (.allocationError, 0x00000005#32, .uninitialized, false, []))
      ∧ (let t := runWord 0x01000000 { State.reset with alloc := ⟨[true], 0⟩, busCfg := ⟨[false], 0⟩ }
         (t.err, t.errinfo, t.drv, t.allocDone, t.trace) = (.busError, 0x00000004#32, .uninitialized, true, [])) := by
  decide +kernel

/-- Vectors RD1 and RD6, their FB and EFFOPT: the flush's first transfer fails (vector FL2), which FB and EFFOPT do not see. -/
theorem test_render :
    (let t := runWord 0x02000000 { inIdle [false] [] with source := solid 255 0 0, arg0 := 1, arg2 := 1 }
     (t.fb.head?, t.effopt, t.drv, t.err, t.errinfo) = (some (0, 0x33#8), 0x00000002#32, .idle, .busError, 0x00000003#32))
      ∧ (let t := runWord 0x02000000 { inIdle [false] [] with source := solid 128 128 128, arg0 := 1, arg2 := 1, arg3 := 1 }
         (t.fb.take 2, t.effopt) = ([(0, 0x01#8), (1, 0x01#8)], 0x0000000A#32)) := by
  decide +kernel

/-- Vectors PR1 to PR3 and RD3: the order of RENDER's checks. -/
theorem test_render_checks :
    (runWord 0x02000000 { State.reset with arg0 := 4 }).err = .illegalCommand
      ∧ (runWord 0x02000000 State.reset).err = .stateError
      ∧ (runWord 0x02000000 (inIdle [] [])).err = .formatError := by decide +kernel

/-- Vector RD4: FB[0] of the transposed gradient, whose pixel (0, 0) is the sample (0, 799) and (1, 0) the sample (0, 798). -/
theorem test_renderByte_transposed :
    renderByte refConfig ⟨some ⟨0, 0, 0⟩, [(639200, ⟨255, 255, 255⟩), (638400, ⟨254, 254, 254⟩)]⟩ true false false 0 0 = 0x11#8 := by
  decide +kernel

/-- Vector FL2. -/
theorem test_flush_cmdFails :
    let t := runWord 0x03000000 (inIdle [false] [])
    (t.trace, t.err, t.errinfo, t.drv)
      = ([.pin .dc false, .pin .cs false, .bytesFailed [0x10], .pin .cs true], .busError, 0x00000003#32, .idle) := by
  decide +kernel

/-- Vector FL3. -/
theorem test_flush_uninitialized :
    let t := runWord 0x03000000 (onBus [] [])
    (t.trace, t.err, t.errinfo) = ([], .stateError, 0x00000000#32) := by decide +kernel

/-- Vector CL1. -/
theorem test_close :
    let t := runWord 0x04000000 (inIdle [] [])
    (t.drv, t.allocDone, t.busReady, t.err, t.pinCs, t.trace) = (.closed, false, false, .ok, none, []) := by decide +kernel

/-- Vector CL2. -/
theorem test_close_again : (runWord 0x04000000 inClosed).err = .ok ∧ (runWord 0x01000000 inClosed).err = .stateError := by
  decide +kernel

/-! ## Panel protocol -/

/-- Vector P1. -/
theorem test_resetPanel :
    (runWord 0x10000000 (onBus [] [])).trace
      = [.pin .rst true, .delay 50, .pin .rst false, .delay 20, .pin .rst true, .delay 50] := by decide +kernel

/-- Vector W2. -/
theorem test_waitBusy_ready :
    let t := runWord 0x1107001E (onBus [] [false, false, true])
    (t.trace, t.err) = ([.sample false, .delay 10, .sample false, .delay 10, .sample true], .ok) := by decide +kernel

/-- Vector W3. -/
theorem test_waitBusy_timeout :
    let t := runWord 0x1107001E (onBus [] [false, false, false, false])
    (t.trace.length, t.err, t.errinfo) = (7, .timeoutError, 0x00000007#32) := by decide +kernel

/-- Vector C1. -/
theorem test_writeCmd :
    (runWord 0x12000061 (onBus [true] [])).trace = [.pin .dc false, .pin .cs false, .bytes [0x61], .pin .cs true] := by
  decide +kernel

/-- Vector C3. -/
theorem test_writeCmd_fails :
    let t := runWord 0x12000061 (onBus [false] [])
    (t.trace, t.err, t.errinfo)
      = ([.pin .dc false, .pin .cs false, .bytesFailed [0x61], .pin .cs true], .busError, 0x00000006#32) := by decide +kernel

/-- Vector C2. -/
theorem test_writeData :
    (runWord 0x13000003 (onBus [true] [])).trace = [.pin .dc true, .pin .cs false, .bytes [0x03], .pin .cs true] := by
  decide +kernel

/-- Vectors B2 and B3: the failing chunk's number. -/
theorem test_writeBuffer_fails :
    (runWord 0x14000000 (onBus [false] [])).errinfo = 0x00000106#32
      ∧ (runWord 0x14000000 (onBus (List.replicate 38 true ++ [false]) [])).errinfo = 0x00002706#32 := by decide +kernel

/-- Vector B1: 2 pin events, 39 transfers, 1 pin event. -/
theorem test_writeBuffer :
    let t := runWord 0x14000000 (onBus (List.replicate 39 true) [])
    (t.trace.length, t.err, t.pinCs) = (42, .ok, some true) := by decide +kernel

/-- Vector I1: Sample, Delay, 14 command and 35 data frames of 4 events, Sample. -/
theorem test_initSeq :
    let t := runWord 0x15000000 (onBus (List.replicate 49 true) [true, true])
    (t.trace.length, t.trace.take 2, t.err) = (199, [.sample true, .delay 30], .ok) := by decide +kernel

/-- Vector T1. -/
theorem test_turnOnDisplay :
    let t := runWord 0x16000000 (onBus (List.replicate 10 true) [true, true, true])
    (t.trace.length, t.trace.drop 39, t.err)
      = (43, [.pin .cs false, .bytes [0x00], .pin .cs true, .sample true], .ok) := by decide +kernel

/-! ## Framebuffer -/

/-- Vector F2, its first byte. -/
theorem test_fbClear : (runWord 0x2000000F (onBus [] [])).fb.head? = some (0, 0xFF#8) := by decide +kernel

/-- Vector F10. -/
theorem test_fbClear_absent : (runWord 0x20000001 State.reset).err = .stateError := by decide +kernel

/-- Vector F4. -/
theorem test_fbGet :
    (runWord 0x21000001 { onBus [] [] with fb := [(0, 0x13)] }).result = 0x00000003#32
      ∧ (runWord 0x21000000 { onBus [] [] with fb := [(0, 0x13)] }).result = 0x00000001#32 := by decide +kernel

/-- Vectors PR4 and E9. -/
theorem test_fbGet_range :
    (runWord 0x21000320 State.reset).err = .illegalCommand ∧ (runWord 0x21078000 (onBus [] [])).err = .illegalCommand := by
  decide +kernel

/-- Vectors F3 and F5. -/
theorem test_fbSet :
    (runWord 0x22180001 { onBus [] [] with fb := [(0, 0x11)] }).fb = [(0, 0x13#8)]
      ∧ (runWord 0x22100400 { onBus [] [] with fb := [(400, 0x11)] }).fb = [(400, 0x21#8)] := by decide +kernel

/-- Vector F6. -/
theorem test_fbSet_last :
    (runWord 0x22377F1F { onBus [] [] with fb := [(191999, 0x11)] }).fb = [(191999, 0x16#8)] := by decide +kernel

/-- Vector F8, its first byte. -/
theorem test_rotate0 : (runWord 0x23000000 { onBus [] [] with fb := [(0, 0x13)] }).tb.head? = some (0, 0x13#8) := by decide +kernel

/-- Vector F7 in small: bytes in reverse order, nibbles exchanged. -/
theorem test_rotate180 : rot180Image [0x13, 0x11, 0x16] = [0x61#8, 0x11#8, 0x31#8] := by decide

/-! ## Pixel map -/

/-- Vectors Q9 and Q10: ties go to the earlier entry. -/
theorem test_quantize_tie :
    (runWord 0x30800080 State.reset).result = 0x00000303#32 ∧ (runWord 0x30008080 State.reset).result = 0x00000405#32 := by
  decide +kernel

/-- Vectors Q6 and Q12. -/
theorem test_quantize :
    (runWord 0x3000FF00 State.reset).result = 0x00000506#32 ∧ (runWord 0x3064C832 State.reset).result = 0x00000506#32 := by
  decide +kernel

/-- Vectors M1 and M2. -/
theorem test_matchColor :
    (runWord 0x31FE0000 { State.reset with arg0 := 1 }).result = 0x80000303#32
      ∧ (runWord 0x31FE0000 State.reset).result = 0x00000000#32 := by decide +kernel

/-- Vectors M6 and M7 (the tolerance is clamped), and M5. -/
theorem test_matchColor_clamp :
    (runWord 0x31010101 { State.reset with arg0 := 0xFFFFFFFF }).result = 0x00000000#32
      ∧ (runWord 0x31410000 { State.reset with arg0 := 1000 }).result = 0x00000000#32
      ∧ (runWord 0x31404040 { State.reset with arg0 := 64 }).result = 0x80000000#32 := by decide +kernel

/-- Vectors D2, D3 and D6. -/
theorem test_dither :
    (runWord 0x320A0A0A State.reset).result = 0x00000000#32
      ∧ (runWord 0x32F0F0F0 { State.reset with arg0 := 0x00000C00 }).result = 0x00FFFFFF#32
      ∧ (runWord 0x32FA0580 { State.reset with arg0 := 0x00000C03 }).result = 0x00EB0071#32 := by decide +kernel

/-- Vectors E13 and E14. -/
theorem test_dither_illegal :
    (runWord 0x32808080 { State.reset with arg0 := 0x00080000 }).err = .illegalCommand
      ∧ (runWord 0x32808080 { State.reset with arg0 := 0x00000320 }).err = .illegalCommand := by decide +kernel

/-- Vectors MP2, MP3, MP4, MP8 and MP9. -/
theorem test_mapPixel :
    (runWord 0x33FE0000 { State.reset with arg1 := 0x001 }).result = 0x00030303#32
      ∧ (runWord 0x33FE0000 { State.reset with arg1 := 0x003 }).result = 0x00030303#32
      ∧ (runWord 0x33FE0000 { State.reset with arg1 := 0x101 }).result = 0x00020303#32
      ∧ (runWord 0x33C8C83C { State.reset with arg0 := 0x00000801, arg1 := 0x002 }).result = 0x00010202#32
      ∧ (runWord 0x33404040 { State.reset with arg1 := 0x7F01 }).result = 0x00020000#32 := by decide +kernel

/-- Vectors E15 and E16. -/
theorem test_mapPixel_illegal :
    (runWord 0x33808080 { State.reset with arg1 := 0x00000004 }).err = .illegalCommand
      ∧ (runWord 0x33808080 { State.reset with arg1 := 0x00008000 }).err = .illegalCommand := by decide +kernel

/-- Vectors O1 to O3. -/
theorem test_orient :
    (runWord 0x34800000 State.reset).result = 0x000C7C00#32 ∧ (runWord 0x34877F1F State.reset).result = 0x000001DF#32
      ∧ (runWord 0x34001C05 State.reset).result = 0x00001C05#32 := by decide +kernel

/-- Vector A5: solid grey, transposed, tolerance 64. -/
theorem test_autoDetect_miss :
    let t := runWord 0x35000000 { State.reset with source := solid 128 128 128, arg0 := 3, arg4 := 64, sixColor := true }
    (t.result, t.sixColor, t.err) = (0x00000000#32, false, .ok) := by decide +kernel

/-- Vector A4. -/
theorem test_autoDetect_invalid :
    let t := runWord 0x35000000 { State.reset with arg4 := 64, sixColor := true }
    (t.sixColor, t.err) = (true, .formatError) := by decide +kernel

/-- Vectors RO2 and RO3. -/
theorem test_resolveOpts :
    (runWord 0x36000000 { State.reset with arg1 := 180, arg2 := 1, arg3 := 1, arg4 := 32 }).result = 0x0000200B#32
      ∧ (runWord 0x36000000
          { State.reset with arg1 := 0xFFFFFFFF, arg2 := 0xFFFFFFFF, arg3 := 2, arg4 := 0xFFFFFFFB }).result = 0x00000009#32 := by
  decide +kernel

/-- Vectors RO4 and RO5. -/
theorem test_resolveOpts_clamp :
    (runWord 0x36000000 { State.reset with arg1 := 90, arg2 := 7, arg3 := 0xFFFFFFFD, arg4 := 100 }).result = 0x00004005#32
      ∧ (runWord 0x36000000
          { State.reset with arg1 := 0x80000000, arg2 := 0x7FFFFFFF, arg3 := 5, arg4 := 64 }).result = 0x0000400D#32 := by
  decide +kernel

/-! ## Witnesses: what meets the hypotheses of the statements -/

theorem transfersOk_of_all {s : State} {n : Nat} (h : (List.range n).all (fun k => Draws.ahead Config.xferOk s.xfer k) = true) :
    TransfersOk s n := fun k hk => (List.all_eq_true.1 h) k (List.mem_range.2 hk)

theorem busyReads1_of_all {s : State} {n : Nat} (h : (List.range n).all (fun k => Draws.ahead Config.busyLevel s.busy k) = true) :
    BusyReads1 s n := fun k hk => (List.all_eq_true.1 h) k (List.mem_range.2 hk)

theorem busyReads0_of_all {s : State} {n : Nat} (h : (List.range n).all (fun k => !Draws.ahead Config.busyLevel s.busy k) = true) :
    BusyReads0 s n := fun k hk => by simpa using (List.all_eq_true.1 h) k (List.mem_range.2 hk)

/-! ### Encoding -/

theorem witness_EncodeOfDecode : decode 0x22377F1F#32 = .ok (.fbSet 799 479 6) := by decide

theorem witness_DecodeAcceptsExactlyTheRows :
    (0x22000000#32, 0xFF800000#32) ∈ opcodeRows ∧ 0x22377F1F#32 &&& 0xFF800000#32 = 0x22000000#32
      ∧ decode 0x22377F1F#32 = .ok (.fbSet 799 479 6) := by decide

theorem witness_StepRunsTheDecodedOperation :
    readyToRun (State.reset.withFetchWord 32 0x30800080) = true
      ∧ decode (State.reset.withFetchWord 32 0x30800080).cmd = .ok (.quantize 128 0 128) := by decide +kernel

theorem witness_UndecodableWordIsIllegal :
    readyToRun (State.reset.withFetchWord 32 0x05000000) = true
      ∧ decode (State.reset.withFetchWord 32 0x05000000).cmd = .error (.unknownOpcode 0x05) := by decide +kernel

/-! ### The host -/

theorem hostsTurn_reset : hostsTurn State.reset = true := by decide +kernel

/-- Any offset at all, read or written, listed or not. -/
theorem witness_HostRegisterAccess (a : HostAction) :
    hostsTurn { State.reset with host := [⟨false, a⟩] } = true ∧ ({ State.reset with host := [⟨false, a⟩] } : State).host = ⟨false, a⟩ :: [] :=
  ⟨hostsTurn_reset, rfl⟩

theorem witness_CommandWriteStartsOneOperation :
    (hostsTurn { State.reset with host := [⟨false, .write 0x00 0x30800080⟩] } = true)
      ∧ readyToRun (State.reset.withFetchWord 32 0x30800080) = true
      ∧ (let s := { onBus [] [] with opActive := true, host := [⟨true, .write 0x00 0⟩] }
         configWf s.cfg = true ∧ goodState s = true ∧ s.opActive = true ∧ s.host = [⟨true, .write 0x00 0⟩]) := by decide +kernel

/-- A configuration with two equal reference colours, one with a threshold of 16, one with a timeout of 65536. -/
theorem witness_MarkedMachineStops :
    configWf { refConfig with palette := { refConfig.palette with green := refConfig.palette.blue } } = false
      ∧ configWf { refConfig with bayer := { refConfig.bayer with q3 := ⟨15, 7, 13, 16⟩ } } = false
      ∧ configWf { refConfig with turnOnSeq := [.wait 65536] } = false
      ∧ ({ State.reset with refusedMark := true } : State).refusedMark = true
      ∧ (let s := { State.reset with hostOverlap := true }
         s.refusedMark = false ∧ configWf s.cfg = true ∧ s.hostOverlap = true) := by decide +kernel

/-- A word of each kind the clauses on the host's conduct during an operation tell apart, and what it decodes to. -/
def conductWords : List (Nat × Except DecodeError Instr) :=
  [(0x01000000, .ok .init), (0x02000000, .ok .render), (0x03000000, .ok .flush), (0x04000000, .ok .close), (0x35000000, .ok .autoDetect),
    (0x1107001E, .ok (.waitBusy 7 30)), (0x05000000, .error (.unknownOpcode 0x05))]

/-- Any action, during one operation of each kind, before INIT, in Idle and Closed, each operation having a next state. -/
theorem witness_HostConductDuringOperation (a : HostAction) :
    ∀ p ∈ conductWords, ∀ s0 ∈ [State.reset, inIdle [] [], inClosed],
      let s := { State.withFetchWord s0 32 p.1 with host := [⟨true, a⟩] }
      (configWf s.cfg = true ∧ goodState s = true ∧ s.opActive = true) ∧ decode s.cmd = p.2 ∧ s.host = ⟨true, a⟩ :: []
        ∧ ∀ i, ∃ u, exec i s = .next u := by
  have hd : ∀ p ∈ conductWords, ∀ s0 ∈ [State.reset, inIdle [] [], inClosed], decode (State.withFetchWord s0 32 p.1).cmd = p.2 := by
    decide +kernel
  intro p hp s0 hs
  have hc : configWf s0.cfg = true ∧ goodState s0 = true := by
    simp only [List.mem_cons, List.not_mem_nil, or_false] at hs
    rcases hs with rfl | rfl | rfl <;> exact ⟨test_refConfig_wf, by decide +kernel⟩
  exact ⟨⟨hc.1, hc.2, rfl⟩, hd p hp s0 hs, rfl, fun i => (exec_shape i _).imp fun _ h => h.1⟩

/-! ### Every operation -/

/-- For OperationsLeaveTheHostSide and the others about any operation that answers a next state. -/
theorem witness_OperationsLeaveTheHostSide : ∃ t, exec .resetPanel (onBus [] []) = .next t := ⟨_, rfl⟩

theorem witness_ResultWrittenOnlyOnSuccess :
    (∃ t, exec (.fbGet 0 0) State.reset = .next t ∧ t.err ≠ .ok)
      ∧ ∃ t, exec .resetPanel (onBus [] []) = .next t ∧ producesResult .resetPanel = false :=
  ⟨⟨_, rfl, by decide +kernel⟩, ⟨_, rfl, by decide⟩⟩

theorem witness_ErrinfoWrittenOnlyOnError :
    (∃ t, exec .resetPanel (onBus [] []) = .next t ∧ t.err = .ok)
      ∧ ∃ t, exec .flush State.reset = .next t ∧ t.err ≠ .ok :=
  ⟨⟨_, rfl, by decide +kernel⟩, ⟨_, rfl, by decide +kernel⟩⟩

theorem witness_LinesFollowTheTrace : Instr.resetPanel ≠ .close ∧ ∃ t, exec .resetPanel (onBus [] []) = .next t := ⟨by decide, _, rfl⟩

theorem witness_StatePreconditions :
    inClosed.drv = .closed ∧ State.reset.drv ≠ .idle ∧ State.reset.arg0.extractLsb' 2 30 = 0#30 ∧ State.reset.busReady = false
      ∧ State.reset.allocDone = false ∧ (799#10).toNat ≤ 799 ∧ (479#9).toNat ≤ 479 := by decide +kernel

/-! ### Pixel map -/

theorem witness_OrientOperation :
    ((799#10).toNat ≤ 799 ∧ (479#9).toNat ≤ 479) ∧ 799 < (800#10).toNat ∧ 479 < (480#9).toNat ∧ 1#4 ≠ 0#4 := by decide

/-- A tie: Red, entry 3, is kept and Black, entry 0, is earlier. -/
theorem witness_QuantizeNearestEarliest :
    (Ink.index .black).toNat < (Ink.index (quantizeInk refConfig ⟨128, 0, 128⟩)).toNat := by decide +kernel

theorem witness_MatchFirstWithinTolerance :
    0 ≤ 64 ∧ 64 ≤ 64 ∧ matchInk refConfig ⟨192, 192, 192⟩ 64 = some .white ∧ matchInk refConfig ⟨254, 0, 0⟩ 0 = none := by
  decide +kernel

theorem solid_matches (x y : Nat) : matchInk refConfig (srcRead (solid 255 0 0) x y) 0 ≠ none := by
  have : srcRead (solid 255 0 0) x y = ⟨255, 0, 0⟩ := rfl
  rw [this]
  decide +kernel

theorem witness_autoDetect : autoDetect refConfig (solid 255 0 0) true 0 = true := by
  simp only [autoDetect, List.all_eq_true]
  intro y _ x _
  exact Option.isSome_iff_ne_none.2 (solid_matches _ _)

/-- A sample listed twice at the last key of a row, one not listed; the keys at both ends of a row. -/
theorem witness_srcRead :
    (∀ p ∈ [((0 : Nat), (⟨1, 1, 1⟩ : Rgb)), (1600, ⟨2, 2, 2⟩)], p.1 ≠ 1 * 800 + 799)
      ∧ srcRead ⟨none, [(0, ⟨1, 1, 1⟩), (1600, ⟨2, 2, 2⟩)] ++ (1 * 800 + 799, ⟨3, 3, 3⟩) :: [(1599, ⟨4, 4, 4⟩)]⟩ 799 1 = ⟨3, 3, 3⟩
      ∧ srcRead ⟨some ⟨9, 9, 9⟩, [(0, ⟨1, 1, 1⟩), (1600, ⟨2, 2, 2⟩)]⟩ 799 1 = ⟨9, 9, 9⟩
      ∧ 799 ≤ 799 ∧ 0 ≤ 799 ∧ 1 * 800 + 799 = 1 * 800 + 799 := by decide +kernel

theorem witness_AutoDetectOperation :
    ((1#32).extractLsb' 2 30 = 0#30 ∧ (1#32).getLsbD 0 = true) ∧ (4#32).extractLsb' 2 30 ≠ 0#30
      ∧ (2#32).extractLsb' 2 30 = 0#30 ∧ (2#32).getLsbD 0 = false := by decide

theorem witness_DitherClampsEachChannel : configWf refConfig = true := by decide +kernel

/-- Coordinate words at the corner, past each edge, and with a reserved bit; mode words with every legal bit and with a reserved one. -/
theorem witness_MapPixelOperation :
    ((0x00077F1F#32).extractLsb' 19 13 = 0#13 ∧ ((0x00077F1F#32).extractLsb' 0 10).toNat = 799
        ∧ ((0x00077F1F#32).extractLsb' 10 9).toNat = 479)
      ∧ ((0x00000320#32).extractLsb' 0 10).toNat = 800 ∧ ((0x00078000#32).extractLsb' 10 9).toNat = 480
      ∧ (0x00080000#32).extractLsb' 19 13 ≠ 0#13 ∧ 0x00007F03#32 &&& 0xFFFF80FC#32 = 0#32
      ∧ 0x00008000#32 &&& 0xFFFF80FC#32 ≠ 0#32 := by decide

theorem witness_QuantizerAndMatcherLaws :
    (Ink.all.map (paletteRgb refConfig)).Nodup ∧ 0 ≤ 64 ∧ matchInk refConfig ⟨255, 0, 0⟩ 0 ≠ none
      ∧ autoDetect refConfig (solid 255 0 0) true 0 = true :=
  ⟨by decide +kernel, by decide, by decide +kernel, witness_autoDetect⟩

theorem witness_ReferenceMatchIsNearest : 64 ≤ 64 ∧ matchInk refConfig ⟨192, 192, 192⟩ 64 = some .white := by decide +kernel

/-! ### Framebuffer -/

/-- The corner, the other byte, and the row neighbour: for NibbleAccess and SetThenGetPixel. -/
theorem witness_NibbleAccess :
    799 ≤ 799 ∧ 479 ≤ 479 ∧ (479 * 800 + 799) / 2 = 191999 ∧ 0 ≠ 191999 ∧ (798, 479) ≠ (799, 479) := by decide

theorem witness_FbClearOperation :
    (1#20 ≠ 0#20) ∧ State.reset.allocDone = false ∧ (onBus [] []).allocDone = true := by decide +kernel

/-- For FbGetOperation and FbSetOperation. -/
theorem witness_FbSetOperation :
    ((onBus [] []).allocDone = true ∧ (799#10).toNat ≤ 799 ∧ (479#9).toNat ≤ 479) ∧ 799 < (800#10).toNat ∧ 479 < (480#9).toNat := by
  decide +kernel

/-- For RotateOperation and HalfTurnByteFormAndInvolution. -/
theorem witness_RotateOperation :
    (let s := { onBus [] [] with fb := [(0, 0x13)], arg0 := 180 }
     s.allocDone = true ∧ Memory.wf s.fb = true ∧ s.arg0.toInt ≠ 0 ∧ ∃ t, exec .rotate s = .next t)
      ∧ (let s := { onBus [] [] with fb := [(191999, 0x16)] }
         s.allocDone = true ∧ Memory.wf s.fb = true ∧ s.arg0.toInt = 0 ∧ ∃ t, exec .rotate s = .next t) :=
  ⟨⟨rfl, by decide, by decide, _, rfl⟩, ⟨rfl, by decide, by decide, _, rfl⟩⟩

theorem witness_PixelLoopsLeaveTheModelsBuffers : Memory.wf [(0, 0x13), (191999, 0x16)] = true := by decide

/-! ### Panel protocol -/

theorem witness_ResetPanelWaveform : 1#24 ≠ 0#24 ∧ (onBus [] []).busReady = true ∧ State.reset.busReady = false := by decide +kernel

/-- Ready at the first sample, ready at the last of 4, never ready. -/
theorem witness_WaitBusyEndsInTime :
    (onBus [] [true]).busReady = true
      ∧ (BusyReads0 (onBus [] [true]) 0 ∧ Draws.ahead Config.busyLevel (onBus [] [true]).busy 0 = true)
      ∧ (BusyReads0 (onBus [] [false, false, false, true]) 3
          ∧ Draws.ahead Config.busyLevel (onBus [] [false, false, false, true]).busy 3 = true)
      ∧ BusyReads0 (onBus [] [false, false, false, false]) 4 :=
  ⟨rfl, ⟨busyReads0_of_all rfl, rfl⟩, ⟨busyReads0_of_all rfl, rfl⟩, busyReads0_of_all rfl⟩

theorem witness_ByteFrames :
    (onBus [true] []).busReady = true ∧ TransfersOk (onBus [true] []) 1 ∧ ¬TransfersOk (onBus [false] []) 1 :=
  ⟨rfl, transfersOk_of_all rfl, fun h => absurd (h 0 (by decide)) (by decide)⟩

theorem witness_WriteBufferSendsTheTransferBuffer :
    (onBus (List.replicate 39 true) []).busReady = true ∧ TransfersOk (onBus (List.replicate 39 true) []) 39
      ∧ Memory.wf (onBus (List.replicate 39 true) []).tb = true :=
  ⟨rfl, transfersOk_of_all (by decide), rfl⟩

/-- The first chunk and the last. -/
theorem witness_WriteBufferStopsAtTheFailingChunk :
    (TransfersOk (onBus [false] []) 0 ∧ Draws.ahead Config.xferOk (onBus [false] []).xfer 0 = false)
      ∧ TransfersOk (onBus (List.replicate 38 true ++ [false]) []) 38
      ∧ Draws.ahead Config.xferOk (onBus (List.replicate 38 true ++ [false]) []).xfer 38 = false :=
  ⟨⟨transfersOk_of_all rfl, rfl⟩, transfersOk_of_all (by decide), by decide⟩

theorem witness_SequencerStopsAtTheFirstError :
    ∃ s1 e s2, runSteps 0x01 [.delayMs 5] 0 (onBus [] [false]) = .done s1
      ∧ runStep 0x01 (0 + [InitStep.delayMs 5].length) (.wait 0) s1 = .raised e s2 := ⟨_, _, _, rfl, rfl⟩

/-- A bus whose step lists fail at their last step, a Wait, where BUSY reads 0. -/
def shortLists : State :=
  { onBus [] [false] with cfg := { refConfig with initTable := [.delayMs 5, .wait 0], turnOnSeq := [.delayMs 5, .wait 0] } }

theorem witness_SequencerStopsAtTheFirstError_exec :
    shortLists.busReady = true ∧ shortLists.cfg.initTable = [.delayMs 5] ++ .wait 0 :: []
      ∧ shortLists.cfg.turnOnSeq = [.delayMs 5] ++ .wait 0 :: []
      ∧ (∀ stage, ∃ s1 e s2, runSteps stage [.delayMs 5] 0 shortLists = .done s1
          ∧ runStep stage [InitStep.delayMs 5].length (.wait 0) s1 = .raised e s2)
      ∧ ∀ i ∈ [Instr.initSeq, .turnOnDisplay], ∃ t, exec i shortLists = .next t ∧ t.err ≠ .ok := by
  refine ⟨rfl, rfl, rfl, fun stage => ⟨_, _, _, rfl, rfl⟩, fun i hi => ?_⟩
  simp only [List.mem_cons, List.not_mem_nil, or_false] at hi
  rcases hi with rfl | rfl <;> exact ⟨_, rfl, by decide +kernel⟩

theorem witness_StepListsSendTheirEvents :
    TransfersOk (onBus (List.replicate 49 true) [true, true]) (listTransfers refConfig.initTable)
      ∧ BusyReads1 (onBus (List.replicate 49 true) [true, true]) (listWaits refConfig.initTable)
      ∧ TransfersOk (onBus (List.replicate 10 true) [true, true, true]) (listTransfers refConfig.turnOnSeq)
      ∧ BusyReads1 (onBus (List.replicate 10 true) [true, true, true]) (listWaits refConfig.turnOnSeq) :=
  ⟨transfersOk_of_all (by decide), busyReads1_of_all (by decide), transfersOk_of_all (by decide), busyReads1_of_all (by decide)⟩

/-! ### Lifecycle and render -/

/-- Idle, with every draw of a flush good, a valid red source and the arguments of a RENDER. -/
def goodFlush : State := { inIdle (List.replicate 50 true) [true, true, true] with source := solid 255 0 0, arg0 := 1 }

theorem goodFlush_draws : TransfersOk goodFlush (flushTransfers goodFlush.cfg) ∧ BusyReads1 goodFlush (listWaits goodFlush.cfg.turnOnSeq) :=
  ⟨transfersOk_of_all (by decide), busyReads1_of_all (by decide)⟩

theorem witness_FlushSendsTheTransferBuffer :
    goodFlush.drv = .idle ∧ TransfersOk goodFlush (flushTransfers goodFlush.cfg)
      ∧ BusyReads1 goodFlush (listWaits goodFlush.cfg.turnOnSeq) := ⟨rfl, goodFlush_draws⟩

/-- It fails at its command, at its last chunk, and it succeeds. -/
theorem witness_FlushFailureKeepsTheImage :
    ((inIdle [false] []).drv = .idle ∧ (∃ t, exec .flush (inIdle [false] []) = .next t ∧ t.err ≠ .ok)
        ∧ TransfersOk (inIdle [false] []) 0 ∧ Draws.ahead Config.xferOk (inIdle [false] []).xfer 0 = false)
      ∧ (let s := inIdle (List.replicate 39 true ++ [false]) []
         s.drv = .idle ∧ (∃ t, exec .flush s = .next t ∧ t.err ≠ .ok) ∧ TransfersOk s 39 ∧ Draws.ahead Config.xferOk s.xfer 39 = false)
      ∧ ∃ t, exec .flush goodFlush = .next t ∧ t.err = .ok :=
  ⟨⟨rfl, ⟨_, rfl, by decide +kernel⟩, transfersOk_of_all rfl, rfl⟩,
    ⟨rfl, ⟨_, rfl, by decide +kernel⟩, transfersOk_of_all (by decide), by decide⟩, _, rfl, by decide +kernel⟩

/-- From construction, with every draw good. -/
def goodInit : State :=
  { State.reset with alloc := ⟨[true], 0⟩, busCfg := ⟨[true], 0⟩, xfer := ⟨List.replicate 99 true, 0⟩, busy := ⟨List.replicate 5 true, 0⟩ }

/-- Again from Idle, the bus and the buffers being there already. -/
def goodInitAgain : State := inIdle (List.replicate 99 true) (List.replicate 5 true)

theorem witness_InitSucceeds :
    ∀ s ∈ [goodInit, goodInitAgain],
      s.drv ≠ .closed ∧ (s.allocDone = false → allocNow s = true) ∧ (s.busReady = false → busCfgNow s = true)
        ∧ TransfersOk s (listTransfers s.cfg.initTable + flushTransfers s.cfg)
        ∧ BusyReads1 s (listWaits s.cfg.initTable + listWaits s.cfg.turnOnSeq) := by
  intro s hs
  simp only [List.mem_cons, List.not_mem_nil, or_false] at hs
  rcases hs with rfl | rfl
  · exact ⟨by decide +kernel, fun _ => rfl, fun _ => rfl, transfersOk_of_all (by decide), busyReads1_of_all (by decide)⟩
  · exact ⟨by decide +kernel, fun h => absurd h (by decide), fun h => absurd h (by decide), transfersOk_of_all (by decide), busyReads1_of_all (by decide)⟩

/-- Vectors IN2 and IN3, the bus configuration failing after an earlier INIT's allocation, and a bus already there whose first transfer
fails. -/
theorem witness_InitFailureLeavesUninitialized :
    (let s := { State.reset with alloc := ⟨[false], 0⟩ }
     s.drv ≠ .closed ∧ s.allocDone = false ∧ allocNow s = false ∧ ∃ t, exec .init s = .next t)
      ∧ (let s := { State.reset with alloc := ⟨[true], 0⟩, busCfg := ⟨[false], 0⟩ }
         s.drv ≠ .closed ∧ s.allocDone = false ∧ allocNow s = true ∧ s.busReady = false ∧ busCfgNow s = false
           ∧ ∃ t, exec .init s = .next t)
      ∧ (let s := { State.reset with allocDone := true, busCfg := ⟨[false], 0⟩ }
         s.drv ≠ .closed ∧ s.allocDone = true ∧ s.busReady = false ∧ busCfgNow s = false ∧ ∃ t, exec .init s = .next t)
      ∧ (let s := onBus [false] [true]
         s.drv ≠ .closed ∧ s.busReady = true ∧ ∃ t, exec .init s = .next t ∧ t.allocDone = true ∧ t.err ≠ .ok) :=
  ⟨⟨by decide, rfl, rfl, _, rfl⟩, ⟨by decide, rfl, rfl, rfl, rfl, _, rfl⟩, ⟨by decide, rfl, rfl, rfl, _, rfl⟩,
    by decide, rfl, _, rfl, by decide +kernel, by decide +kernel⟩

theorem witness_CloseReleasesEverything :
    (inIdle [] []).drv ≠ .closed ∧ inClosed.drv = .closed ∧ ∃ t, exec .init inClosed = .next t := ⟨by decide, rfl, _, rfl⟩

/-- For RenderSucceeds and RenderMapsEveryPixelAlone. -/
theorem witness_RenderSucceeds :
    goodFlush.drv = .idle ∧ goodFlush.arg0.extractLsb' 2 30 = 0#30 ∧ goodFlush.arg0.getLsbD 0 = true
      ∧ TransfersOk goodFlush (flushTransfers goodFlush.cfg) ∧ BusyReads1 goodFlush (listWaits goodFlush.cfg.turnOnSeq)
      ∧ ∃ t, exec .render goodFlush = .next t :=
  ⟨rfl, by decide, by decide, goodFlush_draws.1, goodFlush_draws.2, _, rfl⟩

theorem witness_RenderRotatesIntoTheTransferBuffer :
    (goodFlush.arg1.toInt = 0 ∧ ∃ t, exec .render goodFlush = .next t)
      ∧ ({ goodFlush with arg1 := 180 } : State).arg1.toInt ≠ 0 ∧ ∃ t, exec .render { goodFlush with arg1 := 180 } = .next t :=
  ⟨⟨by decide, _, rfl⟩, by decide, _, rfl⟩

/-- One state for each outcome. -/
theorem witness_RenderOutcomes :
    ({ goodFlush with arg0 := 4 } : State).arg0.extractLsb' 2 30 ≠ 0#30
      ∧ (State.reset.arg0.extractLsb' 2 30 = 0#30 ∧ State.reset.drv ≠ .idle)
      ∧ (let s := { goodFlush with arg0 := 2 }
         s.arg0.extractLsb' 2 30 = 0#30 ∧ s.drv = .idle ∧ s.arg0.getLsbD 0 = false)
      ∧ goodFlush.arg0.extractLsb' 2 30 = 0#30 ∧ goodFlush.drv = .idle ∧ goodFlush.arg0.getLsbD 0 = true := by decide

/-! ### The whole machine -/

theorem inv_goodFlush : Inv goodFlush :=
  ⟨.inr (.inl rfl), fun _ => rfl, fun _ => rfl, fun _ => by contradiction, fun _ => ⟨rfl, rfl⟩, rfl, rfl,
    fun _ => ⟨rfl, rfl, rfl⟩, fun h => by cases h⟩

/-- The step answers a next state. -/
def stepsOn (s : State) : Bool :=
  match step s with
  | .next _ => true
  | .fault _ => false
  | .refused _ => false

theorem next_of_stepsOn {s : State} (h : stepsOn s = true) : ∃ t, step s = .next t := by
  unfold stepsOn at h
  cases hs : step s with
  | next t => exact ⟨t, rfl⟩
  | fault r =>
    rw [hs] at h
    cases h
  | refused r =>
    rw [hs] at h
    cases h

/-- About to run a RENDER, in Idle with both buffers written. -/
def rendering : State :=
  { goodFlush with
    cmd := 0x02000000, opActive := true, fb := Memory.ofImage (fillImage 0x11), tb := Memory.ofImage (fillImage 0x11) }

theorem inv_rendering : Inv rendering :=
  ⟨.inr (.inl rfl), fun _ => rfl, fun _ => rfl, fun _ => by contradiction, fun h => (by cases h),
    Memory.wf_ofImage (le_of_eq (length_fillImage _)), Memory.wf_ofImage (le_of_eq (length_fillImage _)),
    fun _ => ⟨rfl, rfl, rfl⟩, fun h => by cases h⟩

/-- For EveryStepKeepsTheInvariant, DriverStateMovesAsAllowed, EveryStepKeepsTheWireDiscipline and OnlyThreeFrameShapes. -/
theorem witness_EveryStepKeepsTheInvariant : Inv rendering ∧ ∃ t, step rendering = .next t :=
  ⟨inv_rendering, next_of_stepsOn (by decide +kernel)⟩

/-- In Idle with the buffers written, and, where the second premise asks nothing, before INIT. -/
theorem witness_IdleBuffersAreWritten :
    (Inv rendering ∧ (rendering.drv = .idle → BuffersWritten rendering) ∧ ∃ t, step rendering = .next t)
      ∧ (goodInit.drv = .idle → BuffersWritten goodInit) :=
  ⟨⟨inv_rendering,
      fun _ => ⟨(Memory.length_ofImage _).trans (length_fillImage _), (Memory.length_ofImage _).trans (length_fillImage _)⟩,
      next_of_stepsOn (by decide +kernel)⟩,
    fun h => by contradiction⟩

theorem witness_RegistersStayLegal : RegistersLegal rendering ∧ ∃ t, step rendering = .next t :=
  ⟨⟨by decide, by decide, by decide, by decide⟩, next_of_stepsOn (by decide +kernel)⟩

/-- The largest timeout and the two ends of the threshold range are accepted; `witness_MarkedMachineStops` has one past each. -/
theorem witness_ConstructionValues :
    configWf { refConfig with turnOnSeq := [.wait 65535], bayer := { refConfig.bayer with q3 := ⟨15, 7, 13, 0⟩ } } = true := by
  decide +kernel

theorem witness_CommittedDelays :
    (onBus [] [true]).busReady = true ∧ (∃ t, exec .resetPanel (onBus [] [true]) = .next t)
      ∧ (∃ t, exec (.waitBusy 7 30) (onBus [] [true]) = .next t)
      ∧ ∃ t, exec (.waitBusy 7 0) (onBus [] [false]) = .next t ∧ t.err ≠ .ok :=
  ⟨rfl, ⟨_, rfl⟩, ⟨_, rfl⟩, ⟨_, rfl, by decide +kernel⟩⟩

end Sys2Proof.Tests
end

/-! PROOFS: how every operation ends, said once in the terms the invariants need: the error it raised, if any, and the state it had
reached, written out for every shape of `ExecShape`. -/

namespace Sys2Proof.Machine

open Sys2Proof

/-! ## The ending -/

/-- The state an operation leaves that had reached `u` and raised the error `e`, if any (60_exceptions.md R321, R322). -/
def ended : Option OpError → State → State
  | none, u => endedOk u
  | some e, u => endedWith e.kind (errinfoWord e.stage e.step) u

theorem errinfoWord_zero : errinfoWord 0x00 0 = 0#32 := by decide

section
variable (e : Option OpError) (u : State)
@[simp] theorem ended_opActive : (ended e u).opActive = false := by cases e <;> rfl
@[simp] theorem ended_drv : (ended e u).drv = u.drv := by cases e <;> rfl
@[simp] theorem ended_result : (ended e u).result = u.result := by cases e <;> rfl
@[simp] theorem ended_effopt : (ended e u).effopt = u.effopt := by cases e <;> rfl
@[simp] theorem ended_fb : (ended e u).fb = u.fb := by cases e <;> rfl
@[simp] theorem ended_tb : (ended e u).tb = u.tb := by cases e <;> rfl
end

/-! ## What INIT has after the allocation and the bus configuration -/

/-- The state with buffers, as a successful `allocate` leaves it (42_panel_protocol.md R232). -/
def withBuffers (s : State) : State := if s.allocDone then s else allocated (State.tookAlloc s)

/-- The state with a configured bus, as a successful `busConfigure` leaves it (42_panel_protocol.md R233). -/
def withBus (s : State) : State := if s.busReady then s else busConfigured (State.tookBusCfg s)

section
variable (s : State)

@[simp] theorem withBuffers_allocDone : (withBuffers s).allocDone = true := by
  unfold withBuffers
  split
  · assumption
  · rfl

@[simp] theorem withBuffers_busReady : (withBuffers s).busReady = s.busReady := by unfold withBuffers; split <;> rfl
@[simp] theorem withBuffers_result : (withBuffers s).result = s.result := by unfold withBuffers; split <;> rfl
@[simp] theorem withBuffers_errinfo : (withBuffers s).errinfo = s.errinfo := by unfold withBuffers; split <;> rfl
@[simp] theorem withBuffers_effopt : (withBuffers s).effopt = s.effopt := by unfold withBuffers; split <;> rfl

@[simp] theorem withBus_busReady : (withBus s).busReady = true := by
  unfold withBus
  split
  · assumption
  · rfl

@[simp] theorem withBus_allocDone : (withBus s).allocDone = s.allocDone := by
  unfold withBus
  split
  · rfl
  · exact busConfigured_allocDone _

@[simp] theorem withBus_result : (withBus s).result = s.result := by
  unfold withBus
  split
  · rfl
  · exact busConfigured_result _

@[simp] theorem withBus_errinfo : (withBus s).errinfo = s.errinfo := by
  unfold withBus
  split
  · rfl
  · exact busConfigured_errinfo _

@[simp] theorem withBus_effopt : (withBus s).effopt = s.effopt := by
  unfold withBus
  split
  · rfl
  · exact busConfigured_effopt _

end

/-- INIT's state in which the panel protocol begins, DRV_STATE being BusReady (42_panel_protocol.md R249). -/
def initBusReady (s : State) : State := State.setDrv .busReady (withBus (withBuffers s))

@[simp] theorem initBusReady_busReady (s : State) : (initBusReady s).busReady = true := by simp [initBusReady]
@[simp] theorem initBusReady_allocDone (s : State) : (initBusReady s).allocDone = true := by simp [initBusReady]
@[simp] theorem initBusReady_result (s : State) : (initBusReady s).result = s.result := by simp [initBusReady]
@[simp] theorem initBusReady_errinfo (s : State) : (initBusReady s).errinfo = s.errinfo := by simp [initBusReady]
@[simp] theorem initBusReady_effopt (s : State) : (initBusReady s).effopt = s.effopt := by simp [initBusReady]

/-- INIT with the reset waveform and the events `es` sent, both buffers white and the flush begun (42_panel_protocol.md R249). -/
def initFlushing (es : List Event) (n m : Nat) (s : State) : State :=
  State.setDrv .flushing (initWhite (State.setDrv .panelConfigured (afterWire (resetEvents ++ es) n m (initBusReady s))))

/-! ## Lines at rest -/

/-- Events that leave CS and RST high where they stood high (10_state.md R48, R58). -/
def LinesRestHigh (es : List Event) : Prop :=
  lineAfter .cs (some true) es = some true ∧ lineAfter .rst (some true) es = some true

theorem PartEvents.linesRestHigh {cfg : Config} {es : List Event} (h : PartEvents cfg es) : LinesRestHigh es :=
  ⟨lineAfter_cs_of_framed true es h.framed, h.rst _⟩

theorem linesRestHigh_resetEvents : LinesRestHigh resetEvents := ⟨rfl, rfl⟩

theorem LinesRestHigh.append {a b : List Event} (ha : LinesRestHigh a) (hb : LinesRestHigh b) : LinesRestHigh (a ++ b) := by
  obtain ⟨hacs, harst⟩ := ha
  exact ⟨by rw [lineAfter_append, hacs, hb.1], by rw [lineAfter_append, harst, hb.2]⟩

theorem PartEvents.linesRestHigh_reset {cfg : Config} {es : List Event} (h : PartEvents cfg es) :
    LinesRestHigh (resetEvents ++ es) := linesRestHigh_resetEvents.append h.linesRestHigh

/-! ## The shapes, written out -/

/-- The error `e`, if any, an operation `i` begun in `s` raises, and the state `u` it has reached by then. -/
inductive OpEnds (i : Instr) (s : State) : Option OpError → State → Prop where
  /-- a check refused it (60_exceptions.md R336, R340, R341), or CLOSE found Closed (42_panel_protocol.md R250) -/
  | unchanged (e : Option OpError) : OpEnds i s e s
  /-- it wrote RESULT -/
  | result (w : Word) (hi : producesResult i = true) : OpEnds i s none (State.setResult w s)
  /-- AUTO_DETECT wrote RESULT and SIX_COLOR -/
  | detected (w : Word) (b : Bool) (hi : producesResult i = true) : OpEnds i s none (State.setResult w (State.setSixColor b s))
  /-- CLOSE -/
  | closed (hi : i = .close) : OpEnds i s none (closeDriver s)
  /-- FB_CLEAR -/
  | cleared (c : Nibble) (ha : s.allocDone = true) : OpEnds i s none (clearFb c s)
  /-- FB_SET -/
  | pixelSet (x y : Nat) (c : Nibble) (ha : s.allocDone = true) (hx : x ≤ 799) (hy : y ≤ 479) : OpEnds i s none (setFbNib x y c s)
  /-- ROTATE -/
  | rotated (b : Bool) (ha : s.allocDone = true) : OpEnds i s none (rotateInto b s)
  /-- a protocol primitive -/
  | wire (e : Option OpError) (es : List Event) (n m : Nat) (hb : s.busReady = true) (hl : LinesRestHigh es) :
      OpEnds i s e (afterWire es n m s)
  /-- FLUSH -/
  | flushed (e : Option OpError) (es : List Event) (n m : Nat) (hd : s.drv = .idle) (hl : LinesRestHigh es) :
      OpEnds i s e (State.setDrv .idle (State.setDrv .flushing (afterWire es n m s)))
  /-- RENDER -/
  | rendered (e : Option OpError) (es : List Event) (n m : Nat) (hd : s.drv = .idle) (hl : LinesRestHigh es) :
      OpEnds i s e (State.setDrv .idle (State.setDrv .flushing
        (afterWire es n m (rotateInto (resolvedOpts s).rot180 (renderFb s)))))
  /-- INIT stopped at the allocation -/
  | initNoBuffers (e : Option OpError) : OpEnds i s e (State.setDrv .uninitialized (State.tookAlloc s))
  /-- INIT stopped at the bus configuration -/
  | initNoBus (e : Option OpError) : OpEnds i s e (State.setDrv .uninitialized (State.tookBusCfg (withBuffers s)))
  /-- INIT stopped in its table -/
  | initTable (e : Option OpError) (es : List Event) (n m : Nat) (hl : LinesRestHigh (resetEvents ++ es)) :
      OpEnds i s e (State.setDrv .uninitialized (afterWire (resetEvents ++ es) n m (initBusReady s)))
  /-- INIT stopped in its flush -/
  | initFlush (e : Option OpError) (es : List Event) (n m : Nat) (hl : LinesRestHigh (resetEvents ++ es)) :
      OpEnds i s e (State.setDrv .uninitialized (initFlushing es n m s))
  /-- INIT came to Idle -/
  | inited (es : List Event) (n m : Nat) (hl : LinesRestHigh (resetEvents ++ es)) :
      OpEnds i s none (State.setDrv .idle (initFlushing es n m s))

/-- The state `t` an operation leaves is an ending of one of the shapes, and an error raised is not OK. -/
def EndsAs (i : Instr) (s t : State) : Prop :=
  ∃ e u, t = ended e u ∧ (∀ x, e = some x → x.kind ≠ .ok) ∧ OpEnds i s e u

theorem EndsAs.completed {i : Instr} {s u : State} (h : OpEnds i s none u) : EndsAs i s (endedOk u) :=
  ⟨none, u, rfl, fun _ hx => (Option.some_ne_none _ hx.symm).elim, h⟩

theorem EndsAs.raised {i : Instr} {s u : State} {e : OpError} (he : e.kind ≠ .ok) (h : OpEnds i s (some e) u) :
    EndsAs i s (Res.finish (.raised e u)) :=
  ⟨some e, u, rfl, fun _ hx => Option.some.inj hx ▸ he, h⟩

/-- A check's error changes nothing else. -/
theorem EndsAs.refused (i : Instr) (s : State) {k : ErrKind} (hk : k ≠ .ok) : EndsAs i s (endedWith k 0#32 s) :=
  ⟨some ⟨k, 0x00, 0⟩, s, congrArg (endedWith k · s) errinfoWord_zero.symm, fun _ hx => Option.some.inj hx ▸ hk, .unchanged _⟩

theorem ne_ok_of_protocolError {e : OpError} (h : e.kind = .busError ∨ e.kind = .timeoutError) : e.kind ≠ .ok := by
  rcases h with h | h <;> rw [h] <;> decide

theorem endsAs_initDriver (i : Instr) (s : State) : EndsAs i s (Res.finish (initDriver s)) := by
  rcases initDriver_cases s with ⟨-, -, h⟩ | ⟨s1, h1, h⟩
  · rw [h]
    exact .raised (by decide) (.initNoBuffers _)
  have e1 : s1 = withBuffers s := by
    rcases h1 with ⟨rfl, ha⟩ | ⟨ha, -, rfl⟩ <;> simp [withBuffers, ha]
  subst e1
  rcases h with ⟨-, -, h⟩ | ⟨s2, h2, h⟩
  · rw [h]
    exact .raised (by decide) (.initNoBus _)
  have e2 : s2 = withBus (withBuffers s) := by
    rcases h2 with ⟨rfl, hb⟩ | ⟨hb, -, rfl⟩ <;> simp [withBus, hb]
  subst e2
  rw [h]
  rcases initTail_cases (initBusReady s) with ⟨es, n, m, e, hp, he, -, ht⟩ | ⟨es, n, m, hp, ⟨e, he, -, ht⟩ | ht⟩ <;>
    unfold initBusReady at ht <;> rw [ht]
  · exact .raised (ne_ok_of_protocolError he) (.initTable _ es n m hp.linesRestHigh_reset)
  · exact .raised (ne_ok_of_protocolError he) (.initFlush _ es n m hp.linesRestHigh_reset)
  · exact .completed (.inited es n m hp.linesRestHigh_reset)

/-- Every shape of `ExecShape` ends as `OpEnds` says. -/
theorem ExecShape.endsAs {i : Instr} {s t : State} (h : ExecShape i s t) : EndsAs i s t := by
  cases h with
  | refused k hk =>
    refine .refused i s ?_
    rcases hk with rfl | rfl | rfl <;> decide
  | result w hi => exact .completed (.result w hi)
  | detected w b hi => exact .completed (.detected w b (by rw [hi]; rfl))
  | closedAgain => exact .completed (.unchanged none)
  | closed hi => exact .completed (.closed hi)
  | cleared c _ ha => exact .completed (.cleared c ha)
  | pixelSet x y c _ ha hx hy => exact .completed (.pixelSet _ _ c ha hx hy)
  | rotated b _ ha => exact .completed (.rotated b ha)
  | panelReset _ hb => exact .completed (.wire none _ 0 0 hb linesRestHigh_resetEvents)
  | primitive r _ _ hb hr =>
    obtain ⟨es, n, m, hp, rfl | ⟨e, rfl, he⟩⟩ := hr.done_or_raised
    · exact .completed (.wire none es n m hb hp.linesRestHigh)
    · exact .raised (ne_ok_of_protocolError he) (.wire _ es n m hb hp.linesRestHigh)
  | flushed _ hd =>
    obtain ⟨es, n, m, hp, h | ⟨e, h, he, -⟩⟩ := flushFromIdle_cases s <;> rw [h]
    · exact .completed (.flushed none es n m hd hp.linesRestHigh)
    · exact .raised (ne_ok_of_protocolError he) (.flushed _ es n m hd hp.linesRestHigh)
  | rendered _ hd =>
    unfold renderAndFlush
    obtain ⟨es, n, m, hp, h | ⟨e, h, he, -⟩⟩ := flushFromIdle_cases (rotateInto (resolvedOpts s).rot180 (renderFb s)) <;> rw [h]
    · exact .completed (.rendered none es n m hd hp.linesRestHigh)
    · exact .raised (ne_ok_of_protocolError he) (.rendered _ es n m hd hp.linesRestHigh)
  | inited => exact endsAs_initDriver i s

theorem endsAs_of_exec {i : Instr} {s t : State} (h : exec i s = .next t) : EndsAs i s t := (shape_of_exec h).endsAs

/-- The engine's part of a step ends as an operation does; a word that does not decode ends as any operation that a check refuses. -/
theorem runCommand_endsAs {s t : State} (h : runCommand s = .next t) : ∃ i, EndsAs i s t := by
  rcases runCommand_cases h with ⟨i, -, hs⟩ | rfl
  · exact ⟨i, hs.endsAs⟩
  · exact ⟨.close, .refused _ s (by decide)⟩

end Sys2Proof.Machine

/-! PROOFS: what no operation writes, when RESULT, ERRINFO and EFFOPT change, and how the lines move: each read off `OpEnds`. -/

namespace Sys2Proof.Machine

open Sys2Proof

/-! ## What no operation writes -/

/-- `u` is `s` but for the fields an operation can write. -/
def OpFrame (s u : State) : Prop :=
  u = { s with
    drv := u.drv, allocDone := u.allocDone, busReady := u.busReady, sixColor := u.sixColor, opActive := u.opActive, err := u.err,
    result := u.result, errinfo := u.errinfo, effopt := u.effopt, fb := u.fb, tb := u.tb, pinRst := u.pinRst, pinDc := u.pinDc,
    pinCs := u.pinCs, trace := u.trace, busy := u.busy, xfer := u.xfer, alloc := u.alloc, busCfg := u.busCfg, drvLog := u.drvLog }

theorem OpFrame.trans {s u v : State} (hu : OpFrame s u) (hv : OpFrame u v) : OpFrame s v := by
  unfold OpFrame at hv
  rw [hu] at hv
  exact hv

theorem OpFrame.ended {s u : State} (h : OpFrame s u) (e : Option OpError) : OpFrame s (ended e u) :=
  h.trans (by cases e <;> rfl)

theorem withBuffers_frame (s : State) : OpFrame s (withBuffers s) := by
  unfold withBuffers
  split <;> rfl

theorem setPin_frame (p : Pin) (v : Level) (s : State) : OpFrame s (State.setPin p v s) := by cases p <;> rfl

theorem busConfigured_frame (s : State) : OpFrame s (busConfigured s) :=
  (((setPin_frame .cs true s).trans (setPin_frame .rst true _)).trans (setPin_frame .dc (dcData s) _)).trans rfl

theorem withBus_frame (s : State) : OpFrame s (withBus s) := by
  unfold withBus
  split
  · rfl
  · exact OpFrame.trans (u := State.tookBusCfg s) rfl (busConfigured_frame _)

theorem initBusReady_frame (s : State) : OpFrame s (initBusReady s) :=
  ((withBuffers_frame s).trans (withBus_frame _)).trans rfl

theorem OpEnds.frame {i : Instr} {s u : State} {e : Option OpError} (h : OpEnds i s e u) : OpFrame s u := by
  cases h with
  | unchanged | result | detected | closed | cleared | pixelSet | rotated | wire | flushed | rendered | initNoBuffers => rfl
  | initNoBus => exact (withBuffers_frame s).trans rfl
  | initTable | initFlush | inited => exact (initBusReady_frame s).trans rfl

/-- The fields that no operation writes are as before it. -/
theorem frame_of_exec {i : Instr} {s t : State} (h : exec i s = .next t) : OpFrame s t := by
  obtain ⟨e, u, rfl, -, hu⟩ := endsAs_of_exec h
  exact hu.frame.ended e

/-! ## RESULT, ERRINFO and EFFOPT -/

/-- RESULT is written only where a value is produced, and never with an error. -/
theorem OpEnds.result_cases {i : Instr} {s u : State} {e : Option OpError} (h : OpEnds i s e u) :
    u.result = s.result ∨ (producesResult i = true ∧ e = none) := by
  cases h with
  | result w hi | detected w b hi => exact .inr ⟨hi, rfl⟩
  | unchanged | closed | cleared | pixelSet | rotated | wire | flushed | rendered | initNoBuffers => exact .inl rfl
  | initNoBus => exact .inl (withBuffers_result s)
  | initTable | initFlush | inited => exact .inl (initBusReady_result s)

/-- No part of an operation writes ERRINFO before its end. -/
theorem OpEnds.errinfo_eq {i : Instr} {s u : State} {e : Option OpError} (h : OpEnds i s e u) : u.errinfo = s.errinfo := by
  cases h with
  | unchanged | result | detected | closed | cleared | pixelSet | rotated | wire | flushed | rendered | initNoBuffers => rfl
  | initNoBus => exact withBuffers_errinfo s
  | initTable | initFlush | inited => exact initBusReady_errinfo s

/-- EFFOPT is written by RENDER alone, with the resolved options (40_pixel_map.md R166). -/
theorem OpEnds.effopt_cases {i : Instr} {s u : State} {e : Option OpError} (h : OpEnds i s e u) :
    u.effopt = s.effopt ∨ u.effopt = effoptWord (resolvedOpts s) := by
  cases h with
  | rendered => exact .inr rfl
  | unchanged | result | detected | closed | cleared | pixelSet | rotated | wire | flushed | initNoBuffers => exact .inl rfl
  | initNoBus => exact .inl (withBuffers_effopt s)
  | initTable | initFlush | inited => exact .inl (initBusReady_effopt s)

/-! ## The trace and the lines -/

/-- From `s` to `u` the events `es` were appended to the trace and moved the lines (10_state.md R48). -/
structure Sent (s : State) (es : List Event) (u : State) : Prop where
  trace : u.trace = s.trace ++ es
  rst   : u.pinRst = lineAfter .rst s.pinRst es
  dc    : u.pinDc = lineAfter .dc s.pinDc es
  cs    : u.pinCs = lineAfter .cs s.pinCs es

/-- A state with the same trace and lines. -/
theorem Sent.nothing {s u : State} (ht : u.trace = s.trace) (hr : u.pinRst = s.pinRst) (hd : u.pinDc = s.pinDc)
    (hc : u.pinCs = s.pinCs) : Sent s [] u :=
  ⟨ht.trans (List.append_nil _).symm, hr, hd, hc⟩

theorem Sent.trans {s u v : State} {a b : List Event} (hu : Sent s a u) (hv : Sent u b v) : Sent s (a ++ b) v where
  trace := by rw [hv.trace, hu.trace, List.append_assoc]
  rst := by rw [hv.rst, hu.rst, lineAfter_append]
  dc := by rw [hv.dc, hu.dc, lineAfter_append]
  cs := by rw [hv.cs, hu.cs, lineAfter_append]

theorem Sent.afterWire (es : List Event) (n m : Nat) (s : State) : Sent s es (afterWire es n m s) := ⟨rfl, rfl, rfl, rfl⟩

theorem withBuffers_sent (s : State) : Sent s [] (withBuffers s) := by
  unfold withBuffers
  split <;> exact .nothing rfl rfl rfl rfl

theorem withBus_sent (s : State) : ∃ es, Sent s es (withBus s) := by
  unfold withBus
  split
  · exact ⟨[], .nothing rfl rfl rfl rfl⟩
  · refine ⟨busConfigEvents s.cfg, ⟨?_, ?_, ?_, ?_⟩⟩ <;>
      simp [State.tookBusCfg, busConfigEvents, lineAfter, dcData]

theorem initBusReady_sent (s : State) : ∃ es, Sent s es (initBusReady s) := by
  obtain ⟨es, hes⟩ := withBus_sent (withBuffers s)
  exact ⟨_, ((withBuffers_sent s).trans hes).trans (.nothing rfl rfl rfl rfl)⟩

/-- Every operation but CLOSE moves the lines by events of its own. -/
theorem OpEnds.sent {i : Instr} {s u : State} {e : Option OpError} (h : OpEnds i s e u) (hi : i ≠ .close) : ∃ es, Sent s es u := by
  obtain ⟨bs, hbs⟩ := initBusReady_sent s
  cases h with
  | unchanged | result | detected | cleared | pixelSet | rotated | initNoBuffers => exact ⟨[], .nothing rfl rfl rfl rfl⟩
  | closed hc => exact absurd hc hi
  | wire _ es n m => exact ⟨es, .afterWire es n m s⟩
  | flushed _ es n m | rendered _ es n m => exact ⟨es, ⟨rfl, rfl, rfl, rfl⟩⟩
  | initNoBus => exact ⟨_, (withBuffers_sent s).trans (.nothing rfl rfl rfl rfl)⟩
  | initTable _ es n m | initFlush _ es n m | inited es n m =>
    exact ⟨_, hbs.trans (b := resetEvents ++ es) ⟨rfl, rfl, rfl, rfl⟩⟩

theorem Sent.ended {s u : State} {es : List Event} (h : Sent s es u) (e : Option OpError) : Sent s es (ended e u) := by
  obtain ⟨ht, hr, hd, hc⟩ := h
  cases e <;> exact ⟨ht, hr, hd, hc⟩

end Sys2Proof.Machine

/-! PROOFS: what the host's turn leaves unchanged, and with it what any step is: the host's, or an operation's end. -/

namespace Sys2Proof.Machine

open Sys2Proof

/-- `t` is `s` but for the fields the host's actions can change (10_state.md R37 to R39, R47, R59). -/
def HostFrame (s t : State) : Prop :=
  t = { s with
    cmd := t.cmd, opActive := t.opActive, arg0 := t.arg0, arg1 := t.arg1, arg2 := t.arg2, arg3 := t.arg3, arg4 := t.arg4,
    source := t.source, hostOverlap := t.hostOverlap, host := t.host, hostData := t.hostData, busyIn := t.busyIn,
    midReads := t.midReads, drvSeen := t.drvSeen }

theorem hostWrite_frame (off v : Word) (rest : List HostEvent) (s : State) :
    HostFrame s (hostWrite off v { s with host := rest }) := by
  unfold hostWrite
  split_ifs <;> rfl

theorem hostRead_frame (off : Word) (rest : List HostEvent) (s : State) : HostFrame s (hostRead off { s with host := rest }) := by
  unfold hostRead lookedAtBusy
  split_ifs <;> rfl

theorem hostTurnBetween_frame (s : State) : HostFrame s (hostTurnBetween s) := by
  unfold hostTurnBetween
  cases s.host with
  | nil => rfl
  | cons e rest =>
    obtain ⟨early, a⟩ := e
    cases a with
    | write off v => exact hostWrite_frame off v rest s
    | read off => exact hostRead_frame off rest s
    | loadSource r => rfl

theorem midWrite_frame {off : Word} {rest : List HostEvent} {s t : State} (h : midWrite off { s with host := rest } = .next t) :
    HostFrame s t := by
  unfold midWrite at h
  split_ifs at h <;> injection h with h <;> rw [← h] <;> rfl

theorem midRead_frame (off : Word) (rest : List HostEvent) (s : State) : HostFrame s (midRead off { s with host := rest }) := by
  rw [midRead_eq]
  rfl

theorem hostTurnDuring_frame {s t : State} (h : hostTurnDuring s = .next t) : HostFrame s t := by
  unfold hostTurnDuring at h
  cases hh : s.host with
  | nil =>
    rw [hh] at h
    injection h with h
    rw [← h]
    rfl
  | cons e rest =>
    rw [hh] at h
    obtain ⟨early, a⟩ := e
    cases a with
    | write off v => exact midWrite_frame h
    | read off =>
      injection h with h
      rw [← h]
      exact midRead_frame off rest s
    | loadSource r =>
      simp only [hostDuring] at h
      split_ifs at h
      injection h with h
      rw [← h]
      rfl

/-- A step that answers a next state was the host's, or ended an operation. -/
theorem step_frame_or_ends {s t : State} (h : step s = .next t) : HostFrame s t ∨ ∃ i, EndsAs i s t := by
  rcases step_cases h with ⟨-, -, h⟩ | ⟨-, -, h⟩ | ⟨-, rfl⟩
  · exact .inl (hostTurnDuring_frame h)
  · exact .inr (runCommand_endsAs h)
  · exact .inl (hostTurnBetween_frame s)

end Sys2Proof.Machine

/-! PROOFS: the invariant `Inv`: what of it does not speak of DRV_STATE holds at every point of an operation, and what does at its end. -/

namespace Sys2Proof.Machine

open Sys2Proof

/-! ## The buffers, the bus and the lines -/

/-- The part of a state that the driver object owns: buffers, bus and lines (10_state.md R32 to R35, R48). -/
structure Holdings where
  allocDone : Bool
  busReady  : Bool
  fb        : Memory
  tb        : Memory
  pinRst    : Option Level
  pinDc     : Option Level
  pinCs     : Option Level

def State.holdings (s : State) : Holdings := ⟨s.allocDone, s.busReady, s.fb, s.tb, s.pinRst, s.pinDc, s.pinCs⟩

/-- The clauses of `Inv` that do not speak of DRV_STATE. -/
structure Holdings.Sound (h : Holdings) : Prop where
  busAlloc : h.busReady = true → h.allocDone = true
  absent   : h.allocDone = false → h.fb = [] ∧ h.tb = []
  fbForm   : Memory.wf h.fb = true
  tbForm   : Memory.wf h.tb = true
  pinsOn   : h.busReady = true → h.pinCs = some true ∧ h.pinRst = some true ∧ h.pinDc.isSome = true
  pinsOff  : h.busReady = false → h.pinCs = none ∧ h.pinRst = none ∧ h.pinDc = none

theorem Inv.sound {s : State} (h : Inv s) : s.holdings.Sound :=
  ⟨h.busAlloc, h.absent, h.fbForm, h.tbForm, h.pinsOn, h.pinsOff⟩

/-- An operation's end meets the invariant where its holdings are sound and suit the DRV_STATE it rests in. -/
theorem Holdings.Sound.inv {s : State} (h : s.holdings.Sound) (hr : s.drv = .uninitialized ∨ s.drv = .idle ∨ s.drv = .closed)
    (hi : s.drv = .idle → s.busReady = true) (hc : s.drv = .closed → s.allocDone = false) : Inv s :=
  ⟨hr, h.busAlloc, hi, hc, h.absent, h.fbForm, h.tbForm, h.pinsOn, h.pinsOff⟩

/-- The invariant speaks of DRV_STATE and the holdings only. -/
theorem Inv.congr {s t : State} (h : Inv s) (hd : t.drv = s.drv) (hh : t.holdings = s.holdings) : Inv t := by
  have hb : t.busReady = s.busReady := congrArg Holdings.busReady hh
  have ha : t.allocDone = s.allocDone := congrArg Holdings.allocDone hh
  refine Holdings.Sound.inv (hh ▸ h.sound) (hd ▸ h.resting) ?_ ?_
  · rw [hd, hb]
    exact h.idleHas
  · rw [hd, ha]
    exact h.closedNo

theorem HostFrame.inv {s t : State} (h : HostFrame s t) (hs : Inv s) : Inv t := by
  unfold HostFrame at h
  rw [h]
  exact hs.congr rfl rfl

theorem Inv.ended {u : State} (h : Inv u) (e : Option OpError) : Inv (ended e u) := by
  cases e <;> exact h.congr rfl rfl

theorem busConfigured_holdings (s : State) :
    (busConfigured s).holdings = ⟨s.allocDone, true, s.fb, s.tb, some true, some (dcData s), some true⟩ := by
  simp [State.holdings]

section
variable {s : State} (h : s.holdings.Sound)
include h

/-- A part of the protocol keeps the lines as the invariant has them. -/
theorem Holdings.Sound.afterWire {es : List Event} (hl : LinesRestHigh es) (hb : s.busReady = true) (n m : Nat) :
    (afterWire es n m s).holdings.Sound := by
  obtain ⟨hcs, hrst, hdc⟩ := h.pinsOn hb
  have hcs : s.pinCs = some true := hcs
  have hrst : s.pinRst = some true := hrst
  have hoff : ¬ s.busReady = false := by simp [hb]
  refine ⟨h.busAlloc, h.absent, h.fbForm, h.tbForm, fun _ => ⟨?_, ?_, lineAfter_isSome .dc _ es hdc⟩, fun hn => absurd hn hoff⟩
  · show lineAfter .cs s.pinCs es = some true
    rw [hcs, hl.1]
  · show lineAfter .rst s.pinRst es = some true
    rw [hrst, hl.2]

theorem Holdings.Sound.setFb (ha : s.allocDone = true) {m : Memory} (hm : Memory.wf m = true) :
    (State.setFb m s).holdings.Sound :=
  ⟨h.busAlloc, fun hn => absurd (ha.symm.trans hn) (by decide), hm, h.tbForm, h.pinsOn, h.pinsOff⟩

theorem Holdings.Sound.setTb (ha : s.allocDone = true) {m : Memory} (hm : Memory.wf m = true) :
    (State.setTb m s).holdings.Sound :=
  ⟨h.busAlloc, fun hn => absurd (ha.symm.trans hn) (by decide), h.fbForm, hm, h.pinsOn, h.pinsOff⟩

theorem Holdings.Sound.clearFb (ha : s.allocDone = true) (c : Nibble) : (clearFb c s).holdings.Sound :=
  h.setFb ha (Memory.wf_ofImage (le_of_eq (length_fillImage _)))

theorem Holdings.Sound.rotateInto (ha : s.allocDone = true) (b : Bool) : (rotateInto b s).holdings.Sound :=
  h.setTb ha (Memory.wf_ofImage (le_of_eq (by simp)))

theorem Holdings.Sound.withBuffers : (withBuffers s).holdings.Sound := by
  unfold Machine.withBuffers
  split
  · exact h
  · exact ⟨fun _ => rfl, fun _ => ⟨rfl, rfl⟩, rfl, rfl, h.pinsOn, h.pinsOff⟩

theorem Holdings.Sound.withBus (ha : s.allocDone = true) : (withBus s).holdings.Sound := by
  unfold Machine.withBus
  split
  · exact h
  · rw [busConfigured_holdings]
    exact ⟨fun _ => ha, h.absent, h.fbForm, h.tbForm, fun _ => ⟨rfl, rfl, rfl⟩, nofun⟩

theorem Holdings.Sound.initBusReady : (initBusReady s).holdings.Sound := h.withBuffers.withBus (withBuffers_allocDone s)

end

@[simp] theorem length_renderedImage (s : State) : (renderedImage s).length = 192000 := by
  simp [renderedImage, renderImage]

/-- INIT's buffers and bus while it flushes. -/
theorem Holdings.Sound.initFlushing {s : State} (h : s.holdings.Sound) {es : List Event} (hl : LinesRestHigh (resetEvents ++ es))
    (n m : Nat) : (initFlushing es n m s).holdings.Sound := by
  have hbus := h.initBusReady.afterWire hl (initBusReady_busReady s) n m
  have ha : (Machine.afterWire (resetEvents ++ es) n m (Machine.initBusReady s)).allocDone = true := initBusReady_allocDone s
  exact Holdings.Sound.rotateInto (s := Machine.clearFb (paletteCode _ .white) _) (Holdings.Sound.clearFb hbus ha _) ha false

/-- The state an operation has reached at its end meets the invariant. -/
theorem OpEnds.inv {i : Instr} {s u : State} {e : Option OpError} (h : OpEnds i s e u) (hs : Inv s) : Inv u := by
  have sound : s.holdings.Sound := hs.sound
  cases h with
  | unchanged | result | detected => exact hs.congr rfl rfl
  | closed => exact ⟨.inr (.inr rfl), by simp, by simp, by simp, by simp, rfl, rfl, by simp, by simp⟩
  | cleared c ha => exact (sound.clearFb ha c).inv hs.resting hs.idleHas hs.closedNo
  | pixelSet x y c ha hx hy =>
    exact (sound.setFb ha (Memory.wf_setNib hs.fbForm _ hx hy c)).inv hs.resting hs.idleHas hs.closedNo
  | rotated b ha => exact (sound.rotateInto ha b).inv hs.resting hs.idleHas hs.closedNo
  | wire e es n m hb hl => exact (sound.afterWire hl hb n m).inv hs.resting hs.idleHas hs.closedNo
  | flushed e es n m hd hl =>
    have hb : s.busReady = true := hs.idleHas hd
    exact Holdings.Sound.inv (sound.afterWire hl hb n m) (.inr (.inl rfl)) (fun _ => hb) (by simp)
  | rendered e es n m hd hl =>
    have hb : s.busReady = true := hs.idleHas hd
    have ha : s.allocDone = true := hs.busAlloc hb
    have hfb : (renderFb s).holdings.Sound :=
      sound.setFb ha (Memory.wf_ofImage (le_of_eq (length_renderedImage s)))
    exact Holdings.Sound.inv ((hfb.rotateInto ha _).afterWire hl hb n m) (.inr (.inl rfl)) (fun _ => hb) (by simp)
  | initNoBuffers => exact Holdings.Sound.inv sound (.inl rfl) (by simp) (by simp)
  | initNoBus => exact Holdings.Sound.inv sound.withBuffers (.inl rfl) (by simp) (by simp)
  | initTable e es n m hl =>
    exact Holdings.Sound.inv (sound.initBusReady.afterWire hl (initBusReady_busReady s) n m) (.inl rfl) (by simp) (by simp)
  | initFlush e es n m hl => exact Holdings.Sound.inv (sound.initFlushing hl n m) (.inl rfl) (by simp) (by simp)
  | inited es n m hl =>
    exact Holdings.Sound.inv (sound.initFlushing hl n m) (.inr (.inl rfl)) (fun _ => initBusReady_busReady s) (by simp)

/-- Every step keeps the invariant. -/
theorem inv_step {s t : State} (hs : Inv s) (h : step s = .next t) : Inv t := by
  rcases step_frame_or_ends h with hf | ⟨i, e, u, rfl, -, hu⟩
  · exact hf.inv hs
  · exact (hu.inv hs).ended e

end Sys2Proof.Machine

/-! PROOFS: the two invariants beside `Inv`: in Idle every byte of both buffers has been written, and ERRINFO and EFFOPT stay legal. -/

namespace Sys2Proof.Machine

open Sys2Proof

/-! ## Written buffers -/

theorem Memory.length_le_of_wfFrom {k : Nat} {m : Memory} (h : Memory.wfFrom k m = true) : m.length ≤ 192000 - k := by
  induction m generalizing k with
  | nil => exact Nat.zero_le _
  | cons c rest ih =>
    obtain ⟨b, v⟩ := c
    obtain ⟨hkb, hb, hrest⟩ := (Memory.wfFrom_cons _ _ _ _).1 h
    have := ih hrest
    simp only [List.length_cons]
    omega

theorem Memory.length_le_length_write (m : Memory) (a : Nat) (v : Byte) : m.length ≤ (Memory.write m a v).length := by
  induction m with
  | nil => exact Nat.zero_le _
  | cons c rest ih =>
    simp only [Memory.write]
    split_ifs <;> simp only [List.length_cons] <;> omega

/-- A write inside a buffer all of whose bytes are written leaves them all written. -/
theorem Memory.length_write_of_full {m : Memory} (h : Memory.wf m = true) (hl : m.length = 192000) {a : Nat} (ha : a < 192000)
    (v : Byte) : (Memory.write m a v).length = 192000 := by
  have hle : (Memory.write m a v).length ≤ 192000 := Memory.length_le_of_wfFrom (Memory.wf_write h ha v)
  have hge := Memory.length_le_length_write m a v
  omega

/-- What INIT's white image leaves in both buffers. -/
theorem buffersWritten_initWhite (s : State) : BuffersWritten (initWhite s) :=
  ⟨(Memory.length_ofImage _).trans (length_fillImage _), (Memory.length_ofImage _).trans (by simp)⟩

/-- An operation that ends in Idle leaves both buffers written, where they were if it began there. -/
theorem OpEnds.buffersWritten {i : Instr} {s u : State} {e : Option OpError} (h : OpEnds i s e u) (hs : Inv s)
    (hw : s.drv = .idle → BuffersWritten s) (hu : u.drv = .idle) : BuffersWritten u := by
  cases h with
  | unchanged | result | detected | wire => exact hw hu
  | cleared c => exact ⟨(Memory.length_ofImage _).trans (length_fillImage _), (hw hu).2⟩
  | pixelSet x y c _ hx hy => exact ⟨Memory.length_write_of_full hs.fbForm (hw hu).1 (pixelAddr_lt hx hy) _, (hw hu).2⟩
  | rotated b => exact ⟨(hw hu).1, (Memory.length_ofImage _).trans (by simp)⟩
  | flushed _ _ _ _ hd => exact hw hd
  | rendered => exact ⟨(Memory.length_ofImage _).trans (length_renderedImage s), (Memory.length_ofImage _).trans (by simp)⟩
  | inited es n m => exact buffersWritten_initWhite (State.setDrv .panelConfigured (afterWire (resetEvents ++ es) n m (initBusReady s)))
  | closed | initNoBuffers | initNoBus | initTable | initFlush => cases hu

/-! ## Legal registers -/

/-- ERRINFO's reserved bits are 0 (10_state.md R43). -/
theorem errinfoWord_reserved (stage : Byte) (step : Nat) : errinfoWord stage step &&& 0xFF000000#32 = 0#32 := by
  have hmask : 0xFF000000#32 = 0xFF#8 ++ 0#16 ++ 0#8 := by decide
  rw [errinfoWord, hmask]
  refine (BitVec.and_append (w := 8 + 16) (v := 8)).trans ?_
  simp only [BitVec.and_append, BitVec.zero_and, BitVec.and_zero, BitVec.zero_append_zero]

/-- EFFOPT's reserved bits are 0 (10_state.md R44). -/
theorem effoptWord_reserved (o : Opts) : effoptWord o &&& 0xFFFF80F0#32 = 0#32 := by
  have hmask : 0xFFFF80F0#32 = 0x1FFFF#17 ++ 0#7 ++ 0xF#4 ++ 0#1 ++ 0#2 ++ 0#1 := by decide
  rw [effoptWord, hmask]
  refine (BitVec.and_append (w := 17 + 7 + 4 + 1 + 2) (v := 1)).trans ?_
  simp only [BitVec.and_append, BitVec.zero_and, BitVec.and_zero, BitVec.zero_append_zero]

theorem effoptWord_mode (o : Opts) : (effoptWord o).extractLsb' 1 2 = ColorMode.code o.mode := by
  unfold effoptWord
  grind

theorem effoptWord_tol (o : Opts) : (effoptWord o).extractLsb' 8 7 = BitVec.ofNat 7 o.tol := by
  unfold effoptWord
  grind

theorem clampTol_le (raw : Int) : clampTol raw ≤ 64 := by
  unfold clampTol clampInt
  omega

/-- The options word of RENDER is a legal EFFOPT (10_state.md R44, 40_pixel_map.md R165). -/
theorem effoptWord_resolvedOpts_legal (s : State) :
    effoptWord (resolvedOpts s) &&& 0xFFFF80F0#32 = 0#32 ∧ ((effoptWord (resolvedOpts s)).extractLsb' 1 2).toNat ≤ 2
      ∧ ((effoptWord (resolvedOpts s)).extractLsb' 8 7).toNat ≤ 64 := by
  refine ⟨effoptWord_reserved _, ?_, ?_⟩
  · rw [effoptWord_mode]
    cases (resolvedOpts s).mode <;> decide
  · rw [effoptWord_tol, BitVec.toNat_ofNat]
    exact (Nat.mod_le _ _).trans (clampTol_le s.arg4.toInt)

theorem HostFrame.registersLegal {s t : State} (h : HostFrame s t) (hs : RegistersLegal s) : RegistersLegal t := by
  unfold HostFrame at h
  rw [h]
  exact hs

/-- An operation's end keeps ERRINFO and EFFOPT legal. -/
theorem EndsAs.registersLegal {i : Instr} {s t : State} (h : EndsAs i s t) (hs : RegistersLegal s) : RegistersLegal t := by
  obtain ⟨e, u, rfl, -, hu⟩ := h
  obtain ⟨hinfo, hopt⟩ := hs
  have hinfo' : (ended e u).errinfo &&& 0xFF000000#32 = 0#32 := by
    cases e with
    | none => exact (congrArg (· &&& 0xFF000000#32) hu.errinfo_eq).trans hinfo
    | some x => exact errinfoWord_reserved x.stage x.step
  refine ⟨hinfo', ?_⟩
  rw [ended_effopt]
  rcases hu.effopt_cases with heff | heff <;> rw [heff]
  · exact hopt
  · exact effoptWord_resolvedOpts_legal s

end Sys2Proof.Machine

/-! PROOFS: whose turn a step is, what the host's accesses do, and the configuration check. -/

namespace Sys2Proof.Machine

open Sys2Proof

/-- The engine's turn (10_state.md R38). -/
theorem step_of_readyToRun {s : State} (h : readyToRun s = true) : step s = runCommand s := by
  simp only [readyToRun, goodState, Bool.and_eq_true, Bool.not_eq_true'] at h
  obtain ⟨⟨⟨hwf, hov, href⟩, hop⟩, hin⟩ := h
  simp [step, hwf, hov, href, hop, hin]

/-- The host's turn between operations. -/
theorem step_of_hostsTurn {s : State} (h : hostsTurn s = true) : step s = .next (hostTurnBetween s) := by
  simp only [hostsTurn, goodState, Bool.and_eq_true, Bool.not_eq_true'] at h
  obtain ⟨⟨hwf, hov, href⟩, hop⟩ := h
  simp [step, hwf, hov, href, hop]

/-- The host's turn between operations, its next action being `a`. -/
theorem step_between {s : State} {early : Bool} {a : HostAction} {rest : List HostEvent} (h : hostsTurn s = true)
    (hh : s.host = ⟨early, a⟩ :: rest) : step s = .next (hostBetween a { s with host := rest }) := by
  rw [step_of_hostsTurn h, hostTurnBetween, hh]

/-- The host's turn while an operation runs, its next action being `a`. -/
theorem step_during {s : State} {a : HostAction} {rest : List HostEvent} (hwf : configWf s.cfg = true) (hg : goodState s = true)
    (hop : s.opActive = true) (hh : s.host = ⟨true, a⟩ :: rest) : step s = hostDuring a { s with host := rest } := by
  simp only [goodState, Bool.and_eq_true, Bool.not_eq_true'] at hg
  obtain ⟨hov, href⟩ := hg
  simp [step, hwf, hov, href, hop, hostIntrudes, hostTurnDuring, hh]

/-! ## Host writes and a new raster during an operation -/

theorem midWrite_arg {off : Word} (h : off ∈ [0x10#32, 0x14#32, 0x18#32, 0x1C#32, 0x20#32]) (s : State) :
    midWrite off s = .refused .argWrittenDuringOp := by
  simp only [List.mem_cons, List.not_mem_nil, or_false] at h
  rcases h with rfl | rfl | rfl | rfl | rfl <;> rfl

theorem midWrite_ignored {off : Word} (h : off ∉ [0x00#32, 0x10#32, 0x14#32, 0x18#32, 0x1C#32, 0x20#32]) (s : State) :
    midWrite off s = .next s := by
  simp only [List.mem_cons, List.not_mem_nil, or_false, not_or] at h
  simp [midWrite, isArgOffset, h]

/-- The operations that read the source raster (20_memory.md R95). -/
theorem readsSource_iff (w : Word) : readsSource w = true ↔ decode w = .ok .render ∨ decode w = .ok .autoDetect := by
  unfold readsSource
  split <;> simp_all

theorem hostDuring_loadSource (r : Raster) (s : State) : hostDuring (.loadSource r) s =
    if readsSource s.cmd then .refused .sourceChangedDuringOp else .next { s with source := r } := rfl

/-! ## Register reads -/

/-- A read between operations: the word at the offset, and a look at BUSY where that is STATUS (10_state.md R37, R41). -/
theorem hostRead_eq (off : Word) (s : State) :
    hostRead off s = { s with
      hostData := registerWord s (busyInNow s) off
      busyIn := if off = 0x04#32 then Draws.skip 1 s.busyIn else s.busyIn } := by
  unfold hostRead lookedAtBusy
  split <;> rfl

theorem step_read_between {s : State} {early : Bool} {off : Word} {rest : List HostEvent} (h : hostsTurn s = true)
    (hh : s.host = ⟨early, .read off⟩ :: rest) :
    step s = .next { s with
      host := rest
      hostData := registerWord s (busyInNow s) off
      busyIn := if off = 0x04#32 then Draws.skip 1 s.busyIn else s.busyIn } := by
  rw [step_between h hh, hostBetween, hostRead_eq]
  rfl

/-- Offsets without a readable register read as 0 (10_state.md R37). -/
theorem registerWord_unlisted {s : State} {b : Level} {off : Word}
    (h : off ∉ [0x04#32, 0x08#32, 0x0C#32, 0x10#32, 0x14#32, 0x18#32, 0x1C#32, 0x20#32, 0x24#32]) : registerWord s b off = 0#32 := by
  simp only [List.mem_cons, List.not_mem_nil, or_false, not_or] at h
  simp [registerWord, h]

/-! ## Register reads during an operation -/

/-- The course of DRV_STATE does not depend on what the host has still to do. -/
theorem drvCourse_host (rest : List HostEvent) (s : State) : drvCourse { s with host := rest } = drvCourse s := by
  obtain ⟨t, ht⟩ := runCommand_next s
  have ht' := runCommand_withHostSide (h := rest) (d := s.hostData) (b := s.busyIn) (m := s.midReads) (n := s.drvSeen) ht
  exact (drvCourse_eq ht').trans (drvCourse_eq ht).symm

theorem drvPoint_host (rest : List HostEvent) (s : State) : drvPoint { s with host := rest } = drvPoint s := by
  simp only [drvPoint, drvCourse_host]

theorem drvInProgress_host (rest : List HostEvent) (s : State) : drvInProgress { s with host := rest } = drvInProgress s := by
  simp only [drvInProgress, drvCourse_host, drvPoint_host]

/-- A read the host makes while an operation runs. -/
theorem step_read_during {s : State} {off : Word} {rest : List HostEvent} (hwf : configWf s.cfg = true) (hg : goodState s = true)
    (hop : s.opActive = true) (hh : s.host = ⟨true, .read off⟩ :: rest) :
    step s = .next (State.withHostSide rest (midRegisterWord s (busyInNow s) off)
      (if off = 0x04#32 then Draws.skip 1 s.busyIn else s.busyIn) (s.midReads + 1)
      (if off = 0x04#32 then drvPoint s else s.drvSeen) s) := by
  rw [step_during hwf hg hop hh, hostDuring, midRead_eq, drvPoint_host, midRegisterWord, drvInProgress_host]
  rfl

/-- Where the point that a STATUS read finds lies in what the operation writes to DRV_STATE (20_memory.md R87, R89). -/
theorem drvPoint_of_exec {s u : State} {i : Instr} (hd : decode s.cmd = .ok i) (hx : exec i s = .next u) :
    (s.drv :: u.drvLog.drop s.drvLog.length)[drvPoint s - s.drvLog.length]? = some (drvInProgress s)
      ∧ s.drvLog.length ≤ drvPoint s ∧ drvPoint s ≤ u.drvLog.length
      ∧ (s.drvSeen ≤ u.drvLog.length → s.drvSeen ≤ drvPoint s) := by
  have hrun : runCommand s = .next u := by rw [runCommand, commandWord, hd, ← hx]
  obtain ⟨l, hl, -⟩ := (shape_of_exec hx).drvWrites
  have hcourse : drvCourse s = s.drv :: u.drvLog.drop s.drvLog.length := drvCourse_eq hrun
  have hlen : s.drvLog.length + ((drvCourse s).length - 1) = u.drvLog.length := by
    rw [hcourse, hl]
    simp
  obtain ⟨hlow, hhigh, hseen⟩ := drvPoint_bounds s
  rw [hlen] at hhigh hseen
  exact ⟨hcourse ▸ drvInProgress_eq s, hlow, hhigh, hseen⟩

/-- What a STATUS read finds in DRV_STATE is the value before the operation or one the operation writes. -/
theorem drvInProgress_cases (s : State) :
    (∃ i l, decode s.cmd = .ok i ∧ DrvWrites i s.drv l ∧ drvInProgress s ∈ s.drv :: l)
      ∨ (∃ e, decode s.cmd = .error e) ∧ drvInProgress s = s.drv := by
  obtain ⟨t, l, -, -, hc, h⟩ := drvCourse_cases s
  have hmem : drvInProgress s ∈ s.drv :: l := hc ▸ List.mem_of_getElem? (drvInProgress_eq s)
  rcases h with ⟨i, hd, -, hw⟩ | ⟨he, rfl⟩
  · exact .inl ⟨i, l, hd, hw, hmem⟩
  · exact .inr ⟨he, List.mem_singleton.1 hmem⟩

section
variable {i : Instr} {d e : DrvState} {l : List DrvState} (h : DrvWrites i d l) (hm : e ∈ d :: l)
include h hm

/-- Only four operations write DRV_STATE. -/
theorem DrvWrites.eq_of_other (hi : i ≠ .init) (hr : i ≠ .render) (hf : i ≠ .flush) (hc : i ≠ .close) : e = d := by
  cases h with
  | none => exact List.mem_singleton.1 hm
  | flush h => rcases h with h | h <;> contradiction
  | close | initBus | initTable | initFlush | init => contradiction

/-- A flush of FLUSH or RENDER shows DRV_STATE in Idle and Flushing only. -/
theorem DrvWrites.of_flush (hi : i = .render ∨ i = .flush) : e = d ∨ (d = .idle ∧ e = .flushing) := by
  cases h with
  | none => exact .inl (List.mem_singleton.1 hm)
  | flush _ hd =>
    subst hd
    simp only [List.mem_cons, List.not_mem_nil, or_false] at hm
    rcases hm with rfl | rfl | rfl
    · exact .inl rfl
    · exact .inr ⟨rfl, rfl⟩
    · exact .inl rfl
  | close hc | initBus hc | initTable hc | initFlush hc | init hc => subst hc; simp at hi

theorem DrvWrites.of_close (hi : i = .close) : e = d ∨ e = .closed := by
  cases h with
  | none => exact .inl (List.mem_singleton.1 hm)
  | close => simpa using hm
  | flush hc => subst hi; simp at hc
  | initBus hc | initTable hc | initFlush hc | init hc => subst hi; cases hc

theorem DrvWrites.of_init (hi : i = .init) : e = .closed ↔ d = .closed := by
  cases h with
  | none => rw [List.mem_singleton.1 hm]
  | flush hc => subst hi; simp at hc
  | close hc => subst hi; cases hc
  | initBus _ hd | initTable _ hd | initFlush _ hd | init _ hd =>
    refine iff_of_false (fun he => hd ?_) hd
    subst he
    simpa [eq_comm] using hm

end

/-- What DRV_STATE reads as during each operation (10_state.md R41, 42_panel_protocol.md R230). -/
theorem drvInProgress_by_operation (s : State) :
    (∀ e, decode s.cmd = .error e → drvInProgress s = s.drv)
      ∧ (decode s.cmd ≠ .ok .init → decode s.cmd ≠ .ok .render → decode s.cmd ≠ .ok .flush → decode s.cmd ≠ .ok .close →
          drvInProgress s = s.drv)
      ∧ (decode s.cmd = .ok .render ∨ decode s.cmd = .ok .flush →
          drvInProgress s = s.drv ∨ (s.drv = .idle ∧ drvInProgress s = .flushing))
      ∧ (decode s.cmd = .ok .close → drvInProgress s = s.drv ∨ drvInProgress s = .closed)
      ∧ (decode s.cmd = .ok .init → (drvInProgress s = .closed ↔ s.drv = .closed)) := by
  rcases drvInProgress_cases s with ⟨i, l, hd, hw, hm⟩ | ⟨⟨e, hd⟩, heq⟩
  · simp only [hd, reduceCtorEq, false_implies, implies_true, true_and, ne_eq, Except.ok.injEq]
    exact ⟨hw.eq_of_other hm, hw.of_flush hm, hw.of_close hm, hw.of_init hm⟩
  · simp [heq]

/-! ## The configuration check -/

theorem mem_inkAll (i : Ink) : i ∈ Ink.all := by cases i <;> decide

theorem nodup_inkAll : Ink.all.Nodup := by decide

/-- A list of init steps passes the check where every timeout of it is in range (00_scope.md R10). -/
theorem all_initStepWf_iff (l : List InitStep) : l.all InitStep.wf = true ↔ ∀ n, .wait n ∈ l → n ≤ 65535 := by
  rw [List.all_eq_true]
  refine ⟨fun h n hn => of_decide_eq_true (h _ hn), fun h st hst => ?_⟩
  cases st with
  | wait n => exact decide_eq_true (h n hst)
  | cmd | delayMs => rfl

/-- The well-formedness check as 00_scope.md R10 words it. -/
theorem configWf_iff (cfg : Config) : configWf cfg = true ↔
    (∀ i j : Ink, paletteRgb cfg i = paletteRgb cfg j → i = j)
      ∧ (∀ row ∈ [cfg.bayer.q0, cfg.bayer.q1, cfg.bayer.q2, cfg.bayer.q3],
          ∀ v ∈ [row.q0, row.q1, row.q2, row.q3], 0 ≤ v ∧ v ≤ 15)
      ∧ ∀ n, .wait n ∈ cfg.initTable ∨ .wait n ∈ cfg.turnOnSeq → n ≤ 65535 := by
  have hinks : (Ink.all.map (paletteRgb cfg)).Nodup ↔ ∀ i j : Ink, paletteRgb cfg i = paletteRgb cfg j → i = j := by
    rw [List.nodup_map_iff_inj_on nodup_inkAll]
    simp only [mem_inkAll, true_implies]
  have hbayer : ((quadList cfg.bayer).flatMap quadList).all (fun v => decide (0 ≤ v) && decide (v ≤ 15)) = true
      ↔ ∀ row ∈ [cfg.bayer.q0, cfg.bayer.q1, cfg.bayer.q2, cfg.bayer.q3],
          ∀ v ∈ [row.q0, row.q1, row.q2, row.q3], 0 ≤ v ∧ v ≤ 15 := by
    rw [List.all_flatMap, List.all_eq_true]
    simp only [List.all_eq_true, Bool.and_eq_true, decide_eq_true_eq]
    rfl
  unfold configWf
  rw [Bool.and_eq_true, Bool.and_eq_true, Bool.and_eq_true, decide_eq_true_eq, hinks, hbayer, all_initStepWf_iff, all_initStepWf_iff]
  simp only [and_assoc, or_imp, forall_and]

end Sys2Proof.Machine

/-! PROOFS: the statements about the machine's state (10_state.md). -/

namespace Sys2Proof.Proofs

open Sys2Proof Sys2Proof.Machine

/-- Settles O54: a step is the host's, which leaves what `Inv` speaks of, or ends an operation, whose every shape keeps it. -/
theorem everyStepKeepsTheInvariant : Obligations.EveryStepKeepsTheInvariant := fun _ _ hs h => inv_step hs h

/-- Settles O12, by the frame of every shape an operation can end in. -/
theorem operationsLeaveTheHostSide : Obligations.OperationsLeaveTheHostSide := by
  intro i s t h
  have hf : OpFrame s t := frame_of_exec h
  unfold OpFrame at hf
  rw [hf]
  exact ⟨rfl, rfl, rfl, rfl, rfl, rfl, rfl, rfl, rfl, rfl, rfl, rfl, rfl⟩

/-- Settles O13: RESULT is written only in a shape that raises no error and produces a value. -/
theorem resultWrittenOnlyOnSuccess : Obligations.ResultWrittenOnlyOnSuccess := by
  intro i s t h hcond
  obtain ⟨e, u, rfl, -, hu⟩ := endsAs_of_exec h
  rcases hu.result_cases with hk | ⟨hi, rfl⟩
  · rw [ended_result, hk]
  · rcases hcond with herr | hno
    · exact absurd rfl herr
    · rw [hi] at hno
      cases hno

/-- Settles O14: ERRINFO is written where an error is raised, and an error raised is never OK. -/
theorem errinfoWrittenOnlyOnError : Obligations.ErrinfoWrittenOnlyOnError := by
  intro i s t h
  obtain ⟨e, u, rfl, hne, hu⟩ := endsAs_of_exec h
  cases e with
  | none => exact ⟨fun _ => hu.errinfo_eq, fun herr => absurd rfl herr⟩
  | some x => exact ⟨fun herr => absurd herr (hne x rfl), fun _ => ⟨x.stage, BitVec.ofNat 16 x.step, rfl⟩⟩

/-- Settles O15: every shape but that of CLOSE moves the lines by the events it appends. -/
theorem linesFollowTheTrace : Obligations.LinesFollowTheTrace := by
  intro i s t hi h
  obtain ⟨e, u, rfl, -, hu⟩ := endsAs_of_exec h
  obtain ⟨es, hes⟩ := hu.sent hi
  obtain ⟨htrace, hrst, hdc, hcs⟩ := hes.ended e
  exact ⟨es, htrace, hrst, hdc, hcs⟩

/-- Settles O55: a write inside a full buffer leaves it full, and RENDER and INIT write whole images. -/
theorem idleBuffersAreWritten : Obligations.IdleBuffersAreWritten := by
  intro s t hs hw h hidle
  rcases step_frame_or_ends h with hf | ⟨i, e, u, rfl, -, hu⟩
  · unfold HostFrame at hf
    rw [hf] at hidle ⊢
    exact hw hidle
  · rw [ended_drv] at hidle
    rw [BuffersWritten, ended_fb, ended_tb]
    exact hu.buffersWritten hs hw hidle

/-- Settles O56: an error's ERRINFO word and RENDER's options word are legal, and nothing else writes these registers. -/
theorem registersStayLegal : Obligations.RegistersStayLegal := by
  intro s t hs h
  rcases step_frame_or_ends h with hf | ⟨i, hi⟩
  · exact hf.registersLegal hs
  · exact hi.registersLegal hs

/-- Settles O5: the engine's turn is `runCommand`, which runs what the word decodes to. -/
theorem stepRunsTheDecodedOperation : Obligations.StepRunsTheDecodedOperation := by
  intro s i hr hd
  rw [step_of_readyToRun hr, runCommand, commandWord, hd]

/-- Settles O7, offset by offset. -/
theorem hostRegisterAccess : Obligations.HostRegisterAccess := by
  intro s early off v rest h
  refine ⟨fun hh => ⟨_, step_read_between h hh, rfl, fun ho => if_neg ho, fun ho => if_pos ho, ?_⟩, fun hh => ?_,
    fun r hh => step_between h hh⟩
  · refine ⟨?_, ?_, ?_, ?_, ?_, ?_, ?_, ?_, ?_, ?_, ?_⟩
    iterate 10
      rintro rfl
      rfl
    exact fun ho => registerWord_unlisted fun hmem => ho (List.mem_cons_of_mem _ hmem)
  · rw [step_between h hh]
    refine ⟨?_, ?_, ?_, ?_, ?_, ?_, fun ho => ?_⟩
    iterate 6
      rintro rfl
      rfl
    simp only [List.mem_cons, List.not_mem_nil, or_false, not_or] at ho
    simp [hostBetween, hostWrite, ho]

/-- Settles O8: the host's turn, the engine's turn, and the host's turn during an operation. -/
theorem commandWriteStartsOneOperation : Obligations.CommandWriteStartsOneOperation := by
  refine ⟨fun s early w rest h hh => ?_, fun s hr => ?_, fun s w rest hwf hg hop hh => ?_⟩
  · rw [step_between h hh]
    rfl
  · obtain ⟨t, ht⟩ := runCommand_next s
    obtain ⟨i, e, u, rfl, -, -⟩ := runCommand_endsAs ht
    rw [step_of_readyToRun hr]
    refine ⟨_, ht, ended_opActive e u, fun j hd => ?_⟩
    rw [← ht, runCommand, commandWord, hd]
  · rw [step_during hwf hg hop hh]
    rfl

/-- Settles O9; that no operation changes a mark is part of the frame. -/
theorem markedMachineStops : Obligations.MarkedMachineStops := by
  refine ⟨fun s h => ?_, fun s href hwf hov => ?_, fun i s t h => ?_⟩
  · have hcond : (s.refusedMark || !configWf s.cfg) = true := by
      rcases h with h | h <;> simp [h]
    rw [step, if_pos hcond]
  · simp [step, href, hwf, hov]
  · have hf : OpFrame s t := frame_of_exec h
    unfold OpFrame at hf
    rw [hf]
    exact ⟨rfl, rfl⟩

/-- Settles O10: no operation sees the host's side, and DRV_STATE reads as a point of the operation's own course. -/
theorem hostConductDuringOperation : Obligations.HostConductDuringOperation := by
  intro s rest hwf hg hop
  refine ⟨fun off v hh ho => ?_, fun r hh => ?_, fun off v hh ho => ?_, fun off hh => ?_⟩
  · rw [step_during hwf hg hop hh]
    exact midWrite_arg ho _
  · rw [step_during hwf hg hop hh, hostDuring_loadSource]
    simp only [readsSource_iff]
    exact ⟨fun hr => if_pos hr, fun hrender hdetect => if_neg (not_or_intro hrender hdetect)⟩
  · rw [step_during hwf hg hop hh]
    exact midWrite_ignored ho _
  · refine ⟨_, step_read_during hwf hg hop hh, rfl, fun ho => ⟨if_neg ho, if_neg ho⟩, fun ho => if_pos ho, ?_⟩
    refine ⟨?_, ?_, ?_, ?_, ?_, ?_, ?_, ?_, fun ho => registerWord_unlisted ho, ?_, fun i u hx => exec_withHostSide hx⟩
    iterate 8
      rintro rfl
      rfl
    rintro rfl
    refine ⟨drvInProgress s, ?_, fun i u hd hx => drvPoint_of_exec hd hx, drvInProgress_by_operation s⟩
    show statusWord ⟨_, _, _, _, _, s.opActive, _⟩ = _
    rw [hop]

/-- Settles O11: each field of the concatenation, by extracting its bits. -/
theorem statusFieldsPlaced : Obligations.StatusFieldsPlaced := by
  refine ⟨⟨by decide, by decide⟩, fun f => ?_⟩
  unfold statusWord
  refine ⟨?_, ?_, ?_, ?_, ?_, ?_, ?_, ?_⟩ <;> grind

/-- Settles O52: the check as 00_scope.md R10 words it; the values are those `State.resetWith` writes out. -/
theorem constructionValues : Obligations.ConstructionValues := by
  refine ⟨configWf_iff, fun cfg => ?_⟩
  refine ⟨rfl, rfl, rfl, rfl, rfl, rfl, rfl, rfl, rfl, rfl, rfl, rfl, rfl, rfl, rfl, rfl, rfl, rfl, rfl, rfl, rfl, rfl, ?_⟩
  exact iff_of_eq (Bool.not_eq_true' _)

/-- Settles O53: after construction there are no buffers, no bus and no driven line, and every register is 0. -/
theorem invariantAfterConstruction : Obligations.InvariantAfterConstruction := by
  have hinv : ∀ cfg, Inv (State.resetWith cfg) := fun cfg =>
    ⟨.inl rfl, nofun, nofun, nofun, fun _ => ⟨rfl, rfl⟩, rfl, rfl, nofun, fun _ => ⟨rfl, rfl, rfl⟩⟩
  have hregs : ∀ cfg, RegistersLegal (State.resetWith cfg) := fun cfg => by simp [RegistersLegal, State.resetWith]
  exact ⟨fun cfg => ⟨hinv cfg, hregs cfg⟩, hinv refConfig, by decide⟩

end Sys2Proof.Proofs

/-! PROOFS: what reaches the wire: the events an operation appends to the trace, composed part by part, keep the wire discipline and form
frames of the shapes of 30_encoding.md R125. -/

namespace Sys2Proof.Machine

open Sys2Proof

/-! ## Events of a whole operation -/

/-- Events an operation may append to the trace: `PartEvents` but for RST, which the reset waveform and the bus configuration drive. -/
structure OperationEvents (cfg : Config) (es : List Event) : Prop where
  framed : framedFrom true es = true
  shapes : ∀ dc, (framesFrom dc none es).all (fun f => f.failed || frameShape cfg f) = true

theorem PartEvents.operationEvents {cfg : Config} {es : List Event} (h : PartEvents cfg es) : OperationEvents cfg es :=
  ⟨h.framed, h.shapes⟩

theorem OperationEvents.append {cfg : Config} {a b : List Event} (ha : OperationEvents cfg a) (hb : OperationEvents cfg b) :
    OperationEvents cfg (a ++ b) where
  framed := framedFrom_append true a b ha.framed hb.framed
  shapes dc := by rw [framesFrom_append dc none a b ha.framed, List.all_append, ha.shapes, hb.shapes, Bool.and_self]

theorem operationEvents_resetEvents (cfg : Config) : OperationEvents cfg resetEvents := ⟨rfl, fun _ => rfl⟩

theorem operationEvents_busConfigEvents (cfg : Config) : OperationEvents cfg (busConfigEvents cfg) := ⟨rfl, fun _ => rfl⟩

/-! ## States along an operation -/

/-- From `s` to `t` the configuration stayed and the trace grew by events an operation may append. -/
structure Transmits (s t : State) : Prop where
  cfg  : t.cfg = s.cfg
  sent : ∃ es, t.trace = s.trace ++ es ∧ OperationEvents s.cfg es

/-- Nothing was sent. -/
theorem Transmits.nothing {s t : State} (hc : t.cfg = s.cfg) (ht : t.trace = s.trace) : Transmits s t :=
  ⟨hc, [], ht.trans (List.append_nil _).symm, (PartEvents.nil _).operationEvents⟩

theorem Transmits.trans {s t u : State} (hst : Transmits s t) (htu : Transmits t u) : Transmits s u := by
  obtain ⟨hc, a, ha, hea⟩ := hst
  obtain ⟨hc', b, hb, heb⟩ := htu
  rw [hc] at heb
  exact ⟨hc'.trans hc, a ++ b, by rw [hb, ha, List.append_assoc], hea.append heb⟩

theorem Transmits.afterWire {es : List Event} (s : State) (n m : Nat) (h : OperationEvents s.cfg es) :
    Transmits s (afterWire es n m s) := ⟨rfl, es, rfl, h⟩

/-! ## Parts of an operation, done or with an error -/

theorem Transmits.andThen {s : State} {r : Res} {f : State → Res} (hr : Transmits s r.stateOf)
    (hf : ∀ u, Transmits u (f u).stateOf) : Transmits s (Res.andThen r f).stateOf := by
  cases r with
  | done u => exact hr.trans (hf u)
  | raised e u => exact hr

theorem Transmits.onError {s : State} {r : Res} {f : State → State} (hr : Transmits s r.stateOf)
    (hf : ∀ u, Transmits u (f u)) : Transmits s (Res.onError r f).stateOf := by
  cases r with
  | done u => exact hr
  | raised e u => exact hr.trans (hf u)

/-- Neither completing nor raising an error sends anything (60_exceptions.md R321, R322). -/
theorem Transmits.finish {s : State} {r : Res} (hr : Transmits s r.stateOf) : Transmits s (Res.finish r) := by
  cases r <;> exact hr.trans (.nothing rfl rfl)

theorem WirePart.transmits {s : State} {r : Res} (h : WirePart s r) : Transmits s r.stateOf := by
  obtain ⟨⟨es, n, m, hr, hp⟩, -⟩ := h
  rw [hr]
  exact .afterWire s n m hp.operationEvents

theorem transmits_setDrv (d : DrvState) (s : State) : Transmits s (State.setDrv d s) := .nothing rfl rfl

theorem transmits_resetPanel (s : State) : Transmits s (resetPanel s) := by
  rw [resetPanel_eq_afterWire]
  exact .afterWire s 0 0 (operationEvents_resetEvents _)

/-! ## FLUSH and INIT -/

theorem transmits_flushFromIdle (s : State) : Transmits s (flushFromIdle s).stateOf := by
  have hflush : Transmits s (flushPanel (State.setDrv .flushing s)).stateOf :=
    (transmits_setDrv .flushing s).trans (flushPanel_wire _).transmits
  exact (hflush.onError (transmits_setDrv .idle)).andThen (transmits_setDrv .idle)

theorem transmits_allocate (s : State) : Transmits s (allocate s).stateOf := by
  unfold allocate
  split_ifs <;> exact .nothing rfl rfl

/-- A successful bus configuration drives the three lines; a failed one, or one that is skipped, sends nothing (42_panel_protocol.md R233). -/
theorem transmits_busConfigure (s : State) : Transmits s (busConfigure s).stateOf := by
  unfold busConfigure
  split_ifs
  · exact .nothing rfl rfl
  · exact ⟨busConfigured_cfg _, busConfigEvents s.cfg, busConfigured_trace _, operationEvents_busConfigEvents _⟩
  · exact .nothing rfl rfl

theorem transmits_initBus (s : State) : Transmits s (initBus s).stateOf :=
  ((transmits_allocate s).andThen transmits_busConfigure).andThen (transmits_setDrv .busReady)

theorem transmits_initPanel (s : State) : Transmits s (initPanel s).stateOf := by
  have htable : Transmits s (runInitTable (resetPanel s)).stateOf :=
    (transmits_resetPanel s).trans (runSteps_wire _ _ _ _).transmits
  exact htable.andThen (transmits_setDrv .panelConfigured)

theorem transmits_initFlush (s : State) : Transmits s (initFlush s).stateOf := by
  have hwhite : Transmits s (State.setDrv .flushing (initWhite s)) := .nothing rfl rfl
  exact (hwhite.trans (flushPanel_wire _).transmits).andThen (transmits_setDrv .idle)

theorem transmits_initDriver (s : State) : Transmits s (initDriver s).stateOf :=
  (((transmits_initBus s).andThen transmits_initPanel).andThen transmits_initFlush).onError (transmits_setDrv .uninitialized)

/-! ## Operations and steps -/

/-- Every operation appends events that keep the wire discipline, errors included. -/
theorem ExecShape.transmits {i : Instr} {s t : State} (h : ExecShape i s t) : Transmits s t := by
  cases h with
  | refused | result | detected | closedAgain | closed | cleared | pixelSet | rotated => exact .nothing rfl rfl
  | panelReset => exact (Transmits.afterWire s 0 0 (operationEvents_resetEvents _)).trans (.nothing rfl rfl)
  | primitive r _ _ _ hr => exact hr.transmits.finish
  | flushed => exact (transmits_flushFromIdle s).finish
  | rendered =>
    have hrender : Transmits s (rotateInto (resolvedOpts s).rot180 (renderFb s)) := .nothing rfl rfl
    exact (hrender.trans (transmits_flushFromIdle _)).finish
  | inited => exact (transmits_initDriver s).finish

theorem HostFrame.transmits {s t : State} (h : HostFrame s t) : Transmits s t := by
  unfold HostFrame at h
  rw [h]
  exact .nothing rfl rfl

/-- The host's turn sends nothing, and the engine's sends what its operation does. -/
theorem step_transmits {s t : State} (h : step s = .next t) : Transmits s t := by
  rcases step_cases h with ⟨-, -, hduring⟩ | ⟨-, -, hrun⟩ | ⟨-, rfl⟩
  · exact (hostTurnDuring_frame hduring).transmits
  · rcases runCommand_cases hrun with ⟨i, -, hshape⟩ | rfl
    · exact hshape.transmits
    · exact .nothing rfl rfl
  · exact (hostTurnBetween_frame s).transmits

end Sys2Proof.Machine

/-! PROOFS: the statements about the wire (20_memory.md). -/

namespace Sys2Proof.Proofs

open Sys2Proof Sys2Proof.Machine

/-- Settles O58: every part of an operation, done or with an error, appends events that keep the wire discipline, and the host appends
none. -/
theorem everyStepKeepsTheWireDiscipline : Obligations.EveryStepKeepsTheWireDiscipline := by
  intro s t h
  obtain ⟨-, es, htrace, hes⟩ := step_transmits h
  exact ⟨es, htrace, hes.framed⟩

end Sys2Proof.Proofs

/-! PROOFS: the formats of 30_encoding.md R111 to R116, one by one: what the decoder makes of a word written from its fields, when a word is
the one written from its fields, and when it matches a row of the opcode map (R119). -/

namespace Sys2Proof

open Sys2Proof.Laws.OpcodeOfEncoding (opcField_encodeN opcField_encodeB opcField_encodeC opcField_encodeP opcField_encodeRgb
  opcField_encodeW)

/-! ## Shared by the formats -/

/-- Two words cut at the same place are equal just where their parts are. -/
theorem bitVec_append_inj {n m : Nat} {a c : BitVec n} {b d : BitVec m} : a ++ b = c ++ d ↔ a = c ∧ b = d := by
  constructor
  · intro h
    have hhigh := congrArg (BitVec.extractLsb' m n) h
    have hlow := congrArg (BitVec.setWidth m) h
    rw [BitVec.extractLsb'_append_eq_left, BitVec.extractLsb'_append_eq_left] at hhigh
    simp only [BitVec.setWidth_append, le_refl, dif_pos, BitVec.setWidth_eq] at hlow
    exact ⟨hhigh, hlow⟩
  · rintro ⟨rfl, rfl⟩
    rfl

/-- The check of the reserved bits, passed (30_encoding.md R120 step 2). -/
theorem whenReserved_eq_ok {z : Bool} {w : Word} {i j : Instr} : whenReserved z w i = .ok j ↔ z = true ∧ i = j := by
  cases z <;> simp [whenReserved]

/-! ## Format N -/

theorem decodeN_encodeN (o : BitVec 8) (i : Instr) : decodeN (encodeN o) i = .ok i := by
  rw [decodeN, encodeN, immField_N]
  rfl

theorem fields_N (w : Word) : opcField w ++ immField w = w := by
  unfold opcField immField
  grind

theorem encode_of_decodeN {w : Word} {o : BitVec 8} {i j : Instr} (hi : encode i = encodeN o) (ho : opcField w = o)
    (h : decodeN w i = .ok j) : encode j = w := by
  obtain ⟨hz, rfl⟩ := whenReserved_eq_ok.1 h
  rw [hi, encodeN, ← ho, ← eq_of_beq hz, fields_N]

/-! ## Format B -/

theorem decodeB_encodeB (o : BitVec 8) (b : Byte) (i : Byte → Instr) : decodeB (encodeB o b) i = .ok (i b) := by
  rw [decodeB, encodeB, reserved_B, byte_B]
  rfl

theorem fields_B (w : Word) : opcField w ++ w.extractLsb' 8 16 ++ w.extractLsb' 0 8 = w := by
  unfold opcField
  grind

theorem encodeB_of_fields {w : Word} {o : BitVec 8} (ho : opcField w = o) (hz : w.extractLsb' 8 16 = 0#16) :
    encodeB o (w.extractLsb' 0 8) = w := by
  rw [encodeB, ← ho, ← hz, fields_B]

theorem encode_of_decodeB {w : Word} {o : BitVec 8} {i : Byte → Instr} {j : Instr} (hi : ∀ b, encode (i b) = encodeB o b)
    (ho : opcField w = o) (h : decodeB w i = .ok j) : encode j = w := by
  obtain ⟨hz, rfl⟩ := whenReserved_eq_ok.1 h
  rw [hi, encodeB_of_fields ho (eq_of_beq hz)]

/-- The words of a row of format B. -/
theorem matchesB_iff {row : Word × Word} {w : Word} {o : BitVec 8} (hrow : row = (encodeB o 0, 0xFFFFFF00#32)) :
    w &&& row.2 = row.1 ↔ opcField w = o ∧ w.extractLsb' 8 16 = 0#16 := by
  have hmask : 0xFFFFFF00#32 = BitVec.allOnes 8 ++ BitVec.allOnes 16 ++ 0#8 := by decide
  rw [hrow, encodeB, hmask]
  conv_lhs =>
    rw [← fields_B w, BitVec.and_append, BitVec.and_append, BitVec.and_allOnes, BitVec.and_allOnes, bitVec_append_inj,
      bitVec_append_inj]
  simp

/-! ## Format C -/

theorem decodeC_encodeC (o : BitVec 8) (c : Nibble) (i : Nibble → Instr) : decodeC (encodeC o c) i = .ok (i c) := by
  rw [decodeC, encodeC, reserved_C, color_C]
  rfl

theorem fields_C (w : Word) : opcField w ++ w.extractLsb' 4 20 ++ w.extractLsb' 0 4 = w := by
  unfold opcField
  grind

theorem encodeC_of_fields {w : Word} {o : BitVec 8} (ho : opcField w = o) (hz : w.extractLsb' 4 20 = 0#20) :
    encodeC o (w.extractLsb' 0 4) = w := by
  rw [encodeC, ← ho, ← hz, fields_C]

/-- The words of a row of format C. -/
theorem matchesC_iff {row : Word × Word} {w : Word} {o : BitVec 8} (hrow : row = (encodeC o 0, 0xFFFFFFF0#32)) :
    w &&& row.2 = row.1 ↔ opcField w = o ∧ w.extractLsb' 4 20 = 0#20 := by
  have hmask : 0xFFFFFFF0#32 = BitVec.allOnes 8 ++ BitVec.allOnes 20 ++ 0#4 := by decide
  rw [hrow, encodeC, hmask]
  conv_lhs =>
    rw [← fields_C w, BitVec.and_append, BitVec.and_append, BitVec.and_allOnes, BitVec.and_allOnes, bitVec_append_inj,
      bitVec_append_inj]
  simp

/-! ## Format P -/

section
variable (o : BitVec 8) (t : Bool) (c : Nibble) (y : BitVec 9) (x : BitVec 10)
@[simp] theorem fieldT_encodeP : fieldT (encodeP o t c y x) = BitVec.ofBool t := fieldT_P _ _ _ _ _
@[simp] theorem fieldC_encodeP : fieldC (encodeP o t c y x) = c := fieldC_P _ _ _ _ _
@[simp] theorem fieldY_encodeP : fieldY (encodeP o t c y x) = y := fieldY_P _ _ _ _ _
@[simp] theorem fieldX_encodeP : fieldX (encodeP o t c y x) = x := fieldX_P _ _ _ _ _
end

theorem fields_P (w : Word) : opcField w ++ fieldT w ++ fieldC w ++ fieldY w ++ fieldX w = w := by
  unfold opcField fieldT fieldC fieldY fieldX
  grind

theorem encodeP_of_fields {w : Word} {o : BitVec 8} {t : Bool} {c : Nibble} (ho : opcField w = o) (ht : fieldT w = BitVec.ofBool t)
    (hc : fieldC w = c) : encodeP o t c (fieldY w) (fieldX w) = w := by
  rw [encodeP, ← ho, ← ht, ← hc, fields_P]

/-! The `T` field of ORIENT and the flag it stands for. -/

theorem ofBool_beq_one : ∀ t : Bool, (BitVec.ofBool t == 1#1) = t := by decide

theorem eq_ofBool_beq_one : ∀ t : BitVec 1, t = BitVec.ofBool (t == 1#1) := by decide

/-- The mask of a row of format P: the opcode, the bits `mt` of T and `mc` of C, and no coordinate bit. -/
def maskP (mt : BitVec 1) (mc : Nibble) : Word := BitVec.allOnes 8 ++ mt ++ mc ++ 0#9 ++ 0#10

/-- The words of a row of format P. -/
theorem matchesP_iff {row : Word × Word} {w : Word} {o : BitVec 8} {mt : BitVec 1} {mc : Nibble}
    (hrow : row = (encodeP o false 0 0 0, maskP mt mc)) :
    w &&& row.2 = row.1 ↔ opcField w = o ∧ fieldT w &&& mt = 0#1 ∧ fieldC w &&& mc = 0#4 := by
  rw [hrow, maskP, encodeP]
  conv_lhs =>
    rw [← fields_P w, BitVec.and_append, BitVec.and_append, BitVec.and_append, BitVec.and_append, BitVec.and_allOnes,
      bitVec_append_inj, bitVec_append_inj, bitVec_append_inj, bitVec_append_inj]
  simp [and_assoc]

/-! ## Formats RGB and W -/

theorem decodeRgb_encodeRgb (o r g b : BitVec 8) (i : Byte → Byte → Byte → Instr) :
    decodeRgb (encodeRgb o r g b) i = .ok (i r g b) := by
  rw [decodeRgb, encodeRgb, red_Rgb, green_Rgb, blue_Rgb]

theorem encodeRgb_of_opcField {w : Word} {o : BitVec 8} (ho : opcField w = o) :
    encodeRgb o (w.extractLsb' 16 8) (w.extractLsb' 8 8) (w.extractLsb' 0 8) = w := by
  rw [encodeRgb, ← ho]
  unfold opcField
  grind

theorem encode_of_decodeRgb {w : Word} {o : BitVec 8} {i : Byte → Byte → Byte → Instr} {j : Instr}
    (hi : ∀ r g b, encode (i r g b) = encodeRgb o r g b) (ho : opcField w = o) (h : decodeRgb w i = .ok j) : encode j = w := by
  obtain rfl := Except.ok.inj h
  rw [hi, encodeRgb_of_opcField ho]

theorem decodeW_encodeW (o stage : BitVec 8) (timeout : BitVec 16) :
    decodeW (encodeW o stage timeout) = .ok (.waitBusy stage timeout) := by
  rw [decodeW, encodeW, stage_W, timeout_W]

theorem encodeW_of_opcField {w : Word} {o : BitVec 8} (ho : opcField w = o) :
    encodeW o (w.extractLsb' 16 8) (w.extractLsb' 0 16) = w := by
  rw [encodeW, ← ho]
  unfold opcField
  grind

/-- The words of a row of format RGB or W, which have no reserved bits. -/
theorem matchesOpcode_iff {row : Word × Word} {w : Word} {o : BitVec 8} (hrow : row = (encodeN o, 0xFF000000#32)) :
    w &&& row.2 = row.1 ↔ opcField w = o := by
  have hmask : 0xFF000000#32 = BitVec.allOnes 8 ++ 0#24 := by decide
  rw [hrow, encodeN, hmask]
  conv_lhs => rw [← fields_N w, BitVec.and_append, BitVec.and_allOnes, bitVec_append_inj]
  simp

/-! ## The rows of the opcode map -/

/-- The word the encoder writes matches the row of its operation. -/
theorem encode_matches_row (i : Instr) : encode i &&& (rowOf i).2 = (rowOf i).1 := by
  cases i with
  | init | render | flush | close | resetPanel | writeBuffer | initSeq | turnOnDisplay | rotate | autoDetect | resolveOpts => decide
  | writeCmd | writeData => exact (matchesB_iff rfl).2 ⟨opcField_encodeB _ _, reserved_B _ _ _⟩
  | fbClear => exact (matchesC_iff rfl).2 ⟨opcField_encodeC _ _, reserved_C _ _ _⟩
  | fbGet => exact (matchesP_iff (mt := .allOnes 1) (mc := .allOnes 4) rfl).2 ⟨opcField_encodeP _ _ _ _ _, by simp, by simp⟩
  | fbSet => exact (matchesP_iff (mt := .allOnes 1) (mc := 0) rfl).2 ⟨opcField_encodeP _ _ _ _ _, by simp, by simp⟩
  | orient => exact (matchesP_iff (mt := 0) (mc := .allOnes 4) rfl).2 ⟨opcField_encodeP _ _ _ _ _, by simp, by simp⟩
  | quantize | matchColor | dither | mapPixel => exact (matchesOpcode_iff rfl).2 (opcField_encodeRgb _ _ _ _)
  | waitBusy => exact (matchesOpcode_iff rfl).2 (opcField_encodeW _ _ _)

/-- A word that matches an operation's row is one the encoder writes, for an operation of that row. -/
theorem exists_encode_of_matches (i : Instr) {w : Word} (h : w &&& (rowOf i).2 = (rowOf i).1) :
    ∃ j, encode j = w ∧ rowOf j = rowOf i := by
  cases i with
  | init | render | flush | close | resetPanel | writeBuffer | initSeq | turnOnDisplay | rotate | autoDetect | resolveOpts =>
    have hw : w &&& 0xFFFFFFFF#32 = w := BitVec.and_allOnes
    refine ⟨_, ?_, rfl⟩
    exact h.symm.trans hw
  | writeCmd =>
    obtain ⟨ho, hz⟩ := (matchesB_iff (o := 0x12) rfl).1 h
    exact ⟨.writeCmd _, encodeB_of_fields ho hz, rfl⟩
  | writeData =>
    obtain ⟨ho, hz⟩ := (matchesB_iff (o := 0x13) rfl).1 h
    exact ⟨.writeData _, encodeB_of_fields ho hz, rfl⟩
  | fbClear =>
    obtain ⟨ho, hz⟩ := (matchesC_iff (o := 0x20) rfl).1 h
    exact ⟨.fbClear _, encodeC_of_fields ho hz, rfl⟩
  | fbGet =>
    obtain ⟨ho, ht, hc⟩ := (matchesP_iff (o := 0x21) (mt := .allOnes 1) (mc := .allOnes 4) rfl).1 h
    exact ⟨.fbGet _ _, encodeP_of_fields ho (BitVec.and_allOnes.symm.trans ht) (BitVec.and_allOnes.symm.trans hc), rfl⟩
  | fbSet =>
    obtain ⟨ho, ht, -⟩ := (matchesP_iff (o := 0x22) (mt := .allOnes 1) (mc := 0) rfl).1 h
    exact ⟨.fbSet _ _ _, encodeP_of_fields ho (BitVec.and_allOnes.symm.trans ht) rfl, rfl⟩
  | orient =>
    obtain ⟨ho, -, hc⟩ := (matchesP_iff (o := 0x34) (mt := 0) (mc := .allOnes 4) rfl).1 h
    exact ⟨.orient _ _ _, encodeP_of_fields ho (eq_ofBool_beq_one _) (BitVec.and_allOnes.symm.trans hc), rfl⟩
  | quantize => exact ⟨.quantize _ _ _, encodeRgb_of_opcField ((matchesOpcode_iff rfl).1 h), rfl⟩
  | matchColor => exact ⟨.matchColor _ _ _, encodeRgb_of_opcField ((matchesOpcode_iff rfl).1 h), rfl⟩
  | dither => exact ⟨.dither _ _ _, encodeRgb_of_opcField ((matchesOpcode_iff rfl).1 h), rfl⟩
  | mapPixel => exact ⟨.mapPixel _ _ _, encodeRgb_of_opcField ((matchesOpcode_iff rfl).1 h), rfl⟩
  | waitBusy => exact ⟨.waitBusy _ _, encodeW_of_opcField ((matchesOpcode_iff rfl).1 h), rfl⟩

/-- Every row of the opcode map is the row of an operation. -/
theorem exists_rowOf_of_mem : ∀ row ∈ opcodeRows, ∃ i, rowOf i = row := by
  simp [opcodeRows]

end Sys2Proof

/-! PROOFS: the statements about the encoding (30_encoding.md). -/

namespace Sys2Proof.Proofs

open Sys2Proof Sys2Proof.Machine
open Sys2Proof.Laws.OpcodeOfEncoding (opcField_encodeN opcField_encodeB opcField_encodeC opcField_encodeP opcField_encodeRgb
  opcField_encodeW)

/-- Settles O1, format by format. -/
theorem decodeOfEncode : Obligations.DecodeOfEncode := by
  intro i
  cases i with
  | init | render | flush | close | resetPanel | writeBuffer | initSeq | turnOnDisplay | rotate | autoDetect | resolveOpts =>
    rw [encode, decode, opcField_encodeN]
    exact decodeN_encodeN _ _
  | writeCmd | writeData =>
    rw [encode, decode, opcField_encodeB]
    exact decodeB_encodeB _ _ _
  | fbClear =>
    rw [encode, decode, opcField_encodeC]
    exact decodeC_encodeC _ _ _
  | fbGet | fbSet | orient =>
    rw [encode, decode, opcField_encodeP]
    simp [whenReserved, ofBool_beq_one]
  | quantize | matchColor | dither | mapPixel =>
    rw [encode, decode, opcField_encodeRgb]
    exact decodeRgb_encodeRgb _ _ _ _ _
  | waitBusy =>
    rw [encode, decode, opcField_encodeW]
    exact decodeW_encodeW _ _ _

/-- Settles O2: where the reserved bits are 0, the word is put together again from its fields. The cases are the decoder's, in its order,
taken together by format. -/
theorem encodeOfDecode : Obligations.EncodeOfDecode := by
  intro w i h
  unfold decode at h
  split at h
  case h_1 ho | h_2 ho | h_3 ho | h_4 ho | h_5 ho | h_9 ho | h_10 ho | h_11 ho | h_15 ho | h_21 ho | h_22 ho =>
    exact encode_of_decodeN rfl ho h
  case h_6 ho =>
    obtain rfl := Except.ok.inj h
    exact encodeW_of_opcField ho
  case h_7 ho | h_8 ho => exact encode_of_decodeB (fun _ => rfl) ho h
  case h_12 ho =>
    obtain ⟨hz, rfl⟩ := whenReserved_eq_ok.1 h
    exact encodeC_of_fields ho (eq_of_beq hz)
  case h_13 ho =>
    obtain ⟨hz, rfl⟩ := whenReserved_eq_ok.1 h
    obtain ⟨hc, ht⟩ := (Bool.and_eq_true _ _).mp hz
    exact encodeP_of_fields ho (eq_of_beq ht) (eq_of_beq hc)
  case h_14 ho =>
    obtain ⟨ht, rfl⟩ := whenReserved_eq_ok.1 h
    exact encodeP_of_fields ho (eq_of_beq ht) rfl
  case h_16 ho | h_17 ho | h_18 ho | h_19 ho => exact encode_of_decodeRgb (fun _ _ _ => rfl) ho h
  case h_20 ho =>
    obtain ⟨hc, rfl⟩ := whenReserved_eq_ok.1 h
    exact encodeP_of_fields ho (eq_ofBool_beq_one _) (eq_of_beq hc)
  case h_23 => cases h

/-- Settles O3: a word that decodes is written by the encoder, and so is a word that matches a row. -/
theorem decodeAcceptsExactlyTheRows : Obligations.DecodeAcceptsExactlyTheRows := by
  intro w
  refine ⟨fun i hi => ?_, fun row hrow hw => ?_⟩
  · obtain rfl := encodeOfDecode w i hi
    exact encode_matches_row i
  · obtain ⟨i, rfl⟩ := exists_rowOf_of_mem row hrow
    obtain ⟨j, rfl, hj⟩ := exists_encode_of_matches i hw
    exact ⟨j, decodeOfEncode j, hj⟩

/-- Settles O4: each word is the one the encoder writes for its operation. -/
theorem writtenWordsDecode : Obligations.WrittenWordsDecode :=
  ⟨decodeOfEncode .init, decodeOfEncode (.waitBusy 7 30), decodeOfEncode (.writeCmd 0x61), decodeOfEncode (.fbClear 15),
    decodeOfEncode (.fbSet 799 479 6), decodeOfEncode (.quantize 128 0 128), decodeOfEncode (.orient 799 479 true)⟩

/-- Settles O6: the engine's turn is `runCommand`, which raises IllegalCommand where the decoder refuses. -/
theorem undecodableWordIsIllegal : Obligations.UndecodableWordIsIllegal := by
  intro s e hr hd
  rw [step_of_readyToRun hr, runCommand, commandWord, hd]
  show outcome (illegalCommand s) = _
  rw [outcome_eq, illegalCommand, finish_raised, errinfoWord_zero]

/-- Settles O59: every part of an operation, done or with an error, sends frames of the three shapes, and the host sends none. -/
theorem onlyThreeFrameShapes : Obligations.OnlyThreeFrameShapes := by
  intro s t h
  obtain ⟨-, es, htrace, hes⟩ := step_transmits h
  exact ⟨es, htrace, hes.shapes none⟩

end Sys2Proof.Proofs

/-! PROOFS: the functions of the pixel pipeline (40_pixel_map.md): the palette in declaration order, the distance, the quantizer, the matcher,
the ditherer, the source raster and the detection, and the operand checks of the operations that expose them. -/

namespace Sys2Proof.Machine

open Sys2Proof

/-! ## The palette in declaration order -/

theorem getElem?_inkAll_index (i : Ink) : Ink.all[(Ink.index i).toNat]? = some i := by cases i <;> rfl

theorem index_getElem_inkAll : ∀ (k : Nat) (hk : k < Ink.all.length), (Ink.index Ink.all[k]).toNat = k := by decide

/-! ## The distance (40_pixel_map.md R152) -/

theorem abs_chanDiff_le (a b : Byte) : |chanDiff a b| ≤ 255 := by
  rw [chanDiff, abs_le]
  omega

theorem chanDiff_mul_self_le (a b : Byte) : chanDiff a b * chanDiff a b ≤ 65025 :=
  abs_le_iff_mul_self_le (b := (255 : Int)).1 (abs_chanDiff_le a b)

theorem chanDiff_eq_zero_iff {a b : Byte} : chanDiff a b = 0 ↔ a = b := by
  rw [chanDiff, sub_eq_zero, Nat.cast_inj, BitVec.toNat_inj]

theorem rgb_eq_iff {c d : Rgb} : c = d ↔ chanDiff c.r d.r = 0 ∧ chanDiff c.g d.g = 0 ∧ chanDiff c.b d.b = 0 := by
  obtain ⟨r, g, b⟩ := c
  obtain ⟨r', g', b'⟩ := d
  simp only [Rgb.mk.injEq, chanDiff_eq_zero_iff]

theorem inkDist_nonneg (cfg : Config) (i : Ink) (c : Rgb) : 0 ≤ inkDist cfg i c :=
  add_nonneg (add_nonneg (mul_self_nonneg _) (mul_self_nonneg _)) (mul_self_nonneg _)

theorem inkDist_le (cfg : Config) (i : Ink) (c : Rgb) : inkDist cfg i c ≤ 195075 :=
  add_le_add (add_le_add (chanDiff_mul_self_le _ _) (chanDiff_mul_self_le _ _)) (chanDiff_mul_self_le _ _)

theorem inkDist_eq_zero_iff {cfg : Config} {i : Ink} {c : Rgb} : inkDist cfg i c = 0 ↔ c = paletteRgb cfg i := by
  rw [inkDist, add_eq_zero_iff_of_nonneg (add_nonneg (mul_self_nonneg _) (mul_self_nonneg _)) (mul_self_nonneg _),
    add_eq_zero_iff_of_nonneg (mul_self_nonneg _) (mul_self_nonneg _), mul_self_eq_zero, mul_self_eq_zero, mul_self_eq_zero,
    rgb_eq_iff, and_assoc]

/-! ## The quantizer (40_pixel_map.md R153) -/

/-- `m` is at the least distance over the entries of `l`, and every one of them of smaller index is strictly farther. -/
def FirstNearest (cfg : Config) (c : Rgb) (l : List Ink) (m : Ink) : Prop :=
  m ∈ l ∧ ∀ j ∈ l, inkDist cfg m c ≤ inkDist cfg j c
    ∧ ((Ink.index j).toNat < (Ink.index m).toNat → inkDist cfg m c < inkDist cfg j c)

section
variable {cfg : Config} {c : Rgb} {l : List Ink} {m i : Ink}

/-- One comparison of the quantizer, with an entry later than those it has seen. -/
theorem FirstNearest.snoc (h : FirstNearest cfg c l m) (hi : ∀ j ∈ l, (Ink.index j).toNat < (Ink.index i).toNat) :
    FirstNearest cfg c (l ++ [i]) (nearerInk cfg c m i) := by
  obtain ⟨hm, hmin⟩ := h
  unfold nearerInk
  split
  next hlt =>
    refine ⟨by simp, fun j hj => ?_⟩
    rcases List.mem_append.1 hj with hj | hj
    · have hij : inkDist cfg i c < inkDist cfg j c := hlt.trans_le (hmin j hj).1
      exact ⟨hij.le, fun _ => hij⟩
    · obtain rfl := List.mem_singleton.1 hj
      exact ⟨le_rfl, fun h => absurd h (lt_irrefl _)⟩
  next hge =>
    refine ⟨List.mem_append_left _ hm, fun j hj => ?_⟩
    rcases List.mem_append.1 hj with hj | hj
    · exact hmin j hj
    · obtain rfl := List.mem_singleton.1 hj
      exact ⟨not_lt.1 hge, fun h => absurd h (hi m hm).asymm⟩

theorem FirstNearest.foldl {t : List Ink} (h : FirstNearest cfg c l m)
    (hs : (l ++ t).Pairwise fun j k => (Ink.index j).toNat < (Ink.index k).toNat) :
    FirstNearest cfg c (l ++ t) (t.foldl (nearerInk cfg c) m) := by
  induction t generalizing l m with
  | nil => simpa using h
  | cons i t ih =>
    rw [List.append_cons] at hs ⊢
    obtain ⟨hseen, -, -⟩ := List.pairwise_append.1 hs
    obtain ⟨-, -, hlater⟩ := List.pairwise_append.1 hseen
    exact ih (h.snoc fun j hj => hlater j hj i List.mem_cons_self) hs
end

theorem firstNearest_quantizeInk (cfg : Config) (c : Rgb) : FirstNearest cfg c Ink.all (quantizeInk cfg c) :=
  FirstNearest.foldl (l := [.black]) ⟨List.mem_cons_self, by simp⟩ (by decide)

theorem inkDist_quantizeInk_le (cfg : Config) (c : Rgb) (j : Ink) : inkDist cfg (quantizeInk cfg c) c ≤ inkDist cfg j c :=
  ((firstNearest_quantizeInk cfg c).2 j (mem_inkAll j)).1

/-- An entry nearer than every other is the quantizer's. -/
theorem quantizeInk_eq_of_nearer {cfg : Config} {c : Rgb} {i : Ink} (h : ∀ j, j ≠ i → inkDist cfg i c < inkDist cfg j c) :
    quantizeInk cfg c = i := by
  by_contra hne
  exact (h _ hne).not_ge (inkDist_quantizeInk_le cfg c i)

/-! ## The matcher (40_pixel_map.md R155) -/

theorem inkWithin_iff {cfg : Config} {tol : Nat} {c : Rgb} {i : Ink} : inkWithin cfg tol c i = true ↔
    |chanDiff c.r (paletteRgb cfg i).r| ≤ tol ∧ |chanDiff c.g (paletteRgb cfg i).g| ≤ tol
      ∧ |chanDiff c.b (paletteRgb cfg i).b| ≤ tol := by
  simp only [inkWithin, Bool.and_eq_true, decide_eq_true_eq, ← Int.natCast_natAbs, Nat.cast_le, and_assoc]

/-- A search over the palette finds the entry of the least index that meets the test. -/
theorem find?_inkAll_eq_some_iff {p : Ink → Bool} {i : Ink} : Ink.all.find? p = some i ↔
    p i = true ∧ ∀ j, (Ink.index j).toNat < (Ink.index i).toNat → ¬p j = true := by
  rw [List.find?_eq_some_iff_getElem, and_congr_right_iff]
  intro _
  constructor
  · rintro ⟨k, hk, rfl, hbefore⟩ j hj
    obtain ⟨hlt, hget⟩ := List.getElem?_eq_some_iff.1 (getElem?_inkAll_index j)
    rw [index_getElem_inkAll k hk] at hj
    simpa [hget] using hbefore _ hj
  · intro hbefore
    obtain ⟨hlt, hget⟩ := List.getElem?_eq_some_iff.1 (getElem?_inkAll_index i)
    refine ⟨_, hlt, hget, fun k hk => ?_⟩
    simpa using hbefore Ink.all[k] (by rwa [index_getElem_inkAll])

theorem matchInk_eq_some_iff {cfg : Config} {c : Rgb} {tol : Nat} {i : Ink} : matchInk cfg c tol = some i ↔
    inkWithin cfg tol c i = true
      ∧ ∀ j, (Ink.index j).toNat < (Ink.index i).toNat → ¬inkWithin cfg tol c j = true := find?_inkAll_eq_some_iff

theorem matchInk_eq_none_iff {cfg : Config} {c : Rgb} {tol : Nat} :
    matchInk cfg c tol = none ↔ ∀ j, ¬inkWithin cfg tol c j = true := by
  rw [matchInk, List.find?_eq_none]
  exact ⟨fun h j => h j (mem_inkAll j), fun h j _ => h j⟩

theorem matchInk_ne_none_iff {cfg : Config} {c : Rgb} {tol : Nat} :
    matchInk cfg c tol ≠ none ↔ ∃ j, inkWithin cfg tol c j = true := by
  rw [Ne, matchInk_eq_none_iff, not_forall_not]

theorem inkWithin_mono {cfg : Config} {tol tol' : Nat} {c : Rgb} {i : Ink} (htol : tol ≤ tol')
    (h : inkWithin cfg tol c i = true) : inkWithin cfg tol' c i = true := by
  have hcast : (tol : Int) ≤ tol' := Nat.cast_le.2 htol
  obtain ⟨hr, hg, hb⟩ := inkWithin_iff.1 h
  exact inkWithin_iff.2 ⟨hr.trans hcast, hg.trans hcast, hb.trans hcast⟩

theorem inkWithin_zero_iff {cfg : Config} {c : Rgb} {i : Ink} : inkWithin cfg 0 c i = true ↔ c = paletteRgb cfg i := by
  rw [inkWithin_iff, Nat.cast_zero, abs_nonpos_iff, abs_nonpos_iff, abs_nonpos_iff, rgb_eq_iff]

theorem matchInk_ne_none_mono {cfg : Config} {c : Rgb} {tol tol' : Nat} (htol : tol ≤ tol') (h : matchInk cfg c tol ≠ none) :
    matchInk cfg c tol' ≠ none := by
  obtain ⟨j, hj⟩ := matchInk_ne_none_iff.1 h
  exact matchInk_ne_none_iff.2 ⟨j, inkWithin_mono htol hj⟩

/-! ## A match in the reference configuration (40_pixel_map.md R168) -/

theorem paletteRgb_refConfig_injective {i j : Ink} (h : paletteRgb refConfig i = paletteRgb refConfig j) : i = j :=
  ((configWf_iff refConfig).1 (by decide)).1 i j h

theorem paletteRgb_refConfig_extreme (i : Ink) :
    ((paletteRgb refConfig i).r = 0 ∨ (paletteRgb refConfig i).r = 255)
      ∧ ((paletteRgb refConfig i).g = 0 ∨ (paletteRgb refConfig i).g = 255)
      ∧ ((paletteRgb refConfig i).b = 0 ∨ (paletteRgb refConfig i).b = 255) := by
  cases i <;> decide

theorem abs_chanDiff_extreme {p q : Byte} (hp : p = 0 ∨ p = 255) (hq : q = 0 ∨ q = 255) (hne : p ≠ q) : |chanDiff p q| = 255 := by
  rcases hp with rfl | rfl <;> rcases hq with rfl | rfl
  · exact absurd rfl hne
  · rfl
  · rfl
  · exact absurd rfl hne

/-- A channel within 64 of one end of the range is nearer to it than to the other end. -/
theorem chanDiff_extreme_nearest {a p q : Byte} (hp : p = 0 ∨ p = 255) (hq : q = 0 ∨ q = 255) (h : |chanDiff a p| ≤ 64) :
    chanDiff a p * chanDiff a p ≤ chanDiff a q * chanDiff a q
      ∧ (chanDiff a p * chanDiff a p = chanDiff a q * chanDiff a q → p = q) := by
  rcases eq_or_ne p q with rfl | hne
  · exact ⟨le_rfl, fun _ => rfl⟩
  · have hends : chanDiff p q = chanDiff a q - chanDiff a p := (sub_sub_sub_cancel_left _ _ _).symm
    have hfar : 255 ≤ |chanDiff a q| + |chanDiff a p| := by
      rw [← abs_chanDiff_extreme hp hq hne, hends]
      exact abs_sub _ _
    have hlt : chanDiff a p * chanDiff a p < chanDiff a q * chanDiff a q := abs_lt_iff_mul_self_lt.1 (by linarith)
    exact ⟨hlt.le, fun heq => absurd heq hlt.ne⟩

/-- Under REFCFG an entry within 64 on every channel is nearer than every other entry. -/
theorem refConfig_within_nearest {c : Rgb} {tol : Nat} {i j : Ink} (htol : tol ≤ 64) (h : inkWithin refConfig tol c i = true)
    (hne : j ≠ i) : inkDist refConfig i c < inkDist refConfig j c := by
  obtain ⟨hr, hg, hb⟩ := inkWithin_iff.1 (inkWithin_mono htol h)
  obtain ⟨hir, hig, hib⟩ := paletteRgb_refConfig_extreme i
  obtain ⟨hjr, hjg, hjb⟩ := paletteRgb_refConfig_extreme j
  obtain ⟨hrle, hreq⟩ := chanDiff_extreme_nearest hir hjr hr
  obtain ⟨hgle, hgeq⟩ := chanDiff_extreme_nearest hig hjg hg
  obtain ⟨hble, hbeq⟩ := chanDiff_extreme_nearest hib hjb hb
  refine (add_le_add (add_le_add hrle hgle) hble).lt_of_ne fun heq => hne (paletteRgb_refConfig_injective ?_)
  obtain ⟨heqrg, heqb⟩ := (add_eq_add_iff_eq_and_eq (add_le_add hrle hgle) hble).1 heq
  obtain ⟨heqr, heqg⟩ := (add_eq_add_iff_eq_and_eq hrle hgle).1 heqrg
  exact rgb_eq_iff.2 ⟨chanDiff_eq_zero_iff.2 (hreq heqr).symm, chanDiff_eq_zero_iff.2 (hgeq heqg).symm,
    chanDiff_eq_zero_iff.2 (hbeq heqb).symm⟩

/-! ## The ditherer (40_pixel_map.md R160, R161) -/

theorem getElem?_quadList_mod {α : Type} (q : Quad α) (n : Nat) : (quadList q)[n % 4]? = some (quadAt q n) := by
  have hlt : n % 4 < 4 := Nat.mod_lt _ (by decide)
  unfold quadAt
  generalize n % 4 = k at hlt
  interval_cases k <;> rfl

theorem quadAt_mem_quadList {α : Type} (q : Quad α) (n : Nat) : quadAt q n ∈ quadList q :=
  List.mem_of_getElem? (getElem?_quadList_mod q n)

theorem bayerAt_mem_Icc {cfg : Config} (h : configWf cfg = true) (x y : Nat) : 0 ≤ bayerAt cfg x y ∧ bayerAt cfg x y ≤ 15 := by
  obtain ⟨-, hbayer, -⟩ := (configWf_iff cfg).1 h
  exact hbayer _ (quadAt_mem_quadList _ y) _ (quadAt_mem_quadList _ x)

theorem toNat_ditherChan (v : Byte) (d : Int) : ((ditherChan v d).toNat : Int) = min (max ((v.toNat : Int) + d) 0) 255 := by
  rw [ditherChan, clampInt, BitVec.toNat_ofInt]
  omega

/-! ## The source raster and the detection (10_state.md R47, 40_pixel_map.md R157) -/

theorem sampleListed_append {front : List (Nat × Rgb)} {k : Nat} (h : ∀ p ∈ front, p.1 ≠ k) (back : List (Nat × Rgb)) :
    sampleListed (front ++ back) k = sampleListed back k := by
  induction front with
  | nil => rfl
  | cons p front ih =>
    obtain ⟨hp, hfront⟩ := List.forall_mem_cons.1 h
    rw [List.cons_append, sampleListed, if_neg hp.symm, ih hfront]

theorem sampleListed_eq_none {cells : List (Nat × Rgb)} {k : Nat} (h : ∀ p ∈ cells, p.1 ≠ k) : sampleListed cells k = none := by
  simpa [sampleListed] using sampleListed_append h []

theorem autoDetect_iff {cfg : Config} {r : Raster} {t : Bool} {tol : Nat} : autoDetect cfg r t tol = true ↔
    ∀ x y, x ≤ 799 → y ≤ 479 → matchInk cfg (sourceAt r t x y) tol ≠ none := by
  simp only [autoDetect, List.all_eq_true, List.mem_range'_1, Option.isSome_iff_ne_none]
  exact ⟨fun h x y hx hy => h y (by omega) x (by omega), fun h y hy x hx => h x y (by omega) (by omega)⟩

/-! ## The operand checks of the operations -/

theorem outcome_requireLegal {ok : Bool} {s : State} {body : Res} (h : ok = true) :
    outcome (requireLegal ok s body) = .next (Res.finish body) := by
  rw [outcome_eq, finish_requireLegal, if_pos h]

theorem outcome_requireLegal_illegal {ok : Bool} {s : State} {body : Res} (h : ¬ok = true) :
    outcome (requireLegal ok s body) = .next (endedWith .illegalCommand 0#32 s) := by
  rw [outcome_eq, finish_requireLegal, if_neg h]

theorem outcome_requireSource {ok : Bool} {s : State} {body : Res} (h : ok = true) :
    outcome (requireSource ok s body) = .next (Res.finish body) := by
  rw [outcome_eq, finish_requireSource, if_pos h]

theorem outcome_requireSource_invalid {ok : Bool} {s : State} {body : Res} (h : ok = false) :
    outcome (requireSource ok s body) = .next (endedWith .formatError 0#32 s) := by
  rw [outcome_eq, finish_requireSource, h, if_neg Bool.false_ne_true]

theorem coordOk_iff (arg : Word) : coordOk arg = true ↔
    arg.extractLsb' 19 13 = 0#13 ∧ (arg.extractLsb' 0 10).toNat ≤ 799 ∧ (arg.extractLsb' 10 9).toNat ≤ 479 := by
  rw [coordOk, Bool.and_eq_true, coordReservedOk, beq_iff_eq, onPanel_iff, coordX, coordY]

/-- The fields of the mode word of MAP_PIXEL (30_encoding.md R117), reserved ones included. -/
theorem fields_modeWord (w : Word) : w.extractLsb' 15 17 ++ w.extractLsb' 8 7 ++ w.extractLsb' 2 6 ++ w.extractLsb' 0 2 = w := by
  grind

theorem modeReservedOk_iff (arg : Word) : modeReservedOk arg = true ↔ arg &&& 0xFFFF80FC#32 = 0#32 := by
  have hmask : 0xFFFF80FC#32 = BitVec.allOnes 17 ++ 0#7 ++ BitVec.allOnes 6 ++ 0#2 := by decide
  have hzero : 0#32 = 0#17 ++ 0#7 ++ 0#6 ++ 0#2 := by decide
  rw [hmask, hzero]
  conv_rhs =>
    rw [← fields_modeWord arg, BitVec.and_append, BitVec.and_append, BitVec.and_append, BitVec.and_allOnes, BitVec.and_allOnes,
      bitVec_append_inj, bitVec_append_inj, bitVec_append_inj]
  simp [modeReservedOk, and_comm]

theorem decode_orient_reserved (t : Bool) (y : BitVec 9) (x : BitVec 10) {c : Nibble} (hc : c ≠ 0#4) :
    decode (encodeP 0x34#8 t c y x) = .error (.reservedBits 0x34#8) := by
  have hopc : opcField (encodeP 0x34#8 t c y x) = 0x34#8 := Laws.OpcodeOfEncoding.opcField_encodeP _ _ _ _ _
  rw [decode, hopc]
  simp [whenReserved, hopc, hc]

/-! ## The raw options (40_pixel_map.md R165) -/

theorem toNat_code_rawMode (raw : Int) : ((ColorMode.code (rawMode raw)).toNat : Int) = min (max raw 0) 2 := by
  have hcast : ((clampInt raw 0 2).toNat : Int) = min (max raw 0) 2 := by
    unfold clampInt
    omega
  have hle : (clampInt raw 0 2).toNat ≤ 2 := by omega
  rw [rawMode, ← hcast]
  generalize (clampInt raw 0 2).toNat = k at hle
  interval_cases k <;> rfl

theorem rawOrdered_eq_clamp (raw : Int) : (if rawOrdered raw then (1 : Int) else 0) = min (max raw 0) 1 := by
  by_cases h : clampInt raw 0 1 = 1
  · rw [rawOrdered, decide_eq_true h, if_pos rfl, ← clampInt, h]
  · rw [rawOrdered, decide_eq_false h, if_neg Bool.false_ne_true]
    unfold clampInt at h
    omega

theorem natCast_clampTol (raw : Int) : (clampTol raw : Int) = min (max raw 0) 64 := by
  unfold clampTol clampInt
  omega

end Sys2Proof.Machine

/-! PROOFS: the statements about the pixel map (40_pixel_map.md). -/

namespace Sys2Proof.Proofs

open Sys2Proof Sys2Proof.Machine

/-- Settles O17: ORIENT in range, out of range, and with the reserved C field, whose check is the decoder's. -/
theorem orientOperation : Obligations.OrientOperation := by
  refine ⟨fun x y hx hy => ⟨rfl, rfl, hy, Nat.sub_le 799 x⟩, fun x y t s => ⟨decodeOfEncode (.orient x y t), fun hx hy => ?_,
    fun hout => ?_, fun c hc => decode_orient_reserved t y x hc⟩⟩
  · exact outcome_requireLegal ((onPanel_iff _ _).2 ⟨hx, hy⟩)
  · refine outcome_requireLegal_illegal fun h => ?_
    have hon := (onPanel_iff _ _).1 h
    omega

/-- Settles O18: the quantizer's loop keeps the first nearest of the entries it has seen. -/
theorem quantizeNearestEarliest : Obligations.QuantizeNearestEarliest := by
  refine ⟨by decide, fun p i => ?_, fun cfg i => ⟨rfl, rfl⟩, fun cfg i r g b => ⟨?_, inkDist_nonneg _ _ _, inkDist_le _ _ _⟩,
    fun cfg c j => (firstNearest_quantizeInk cfg c).2 j (mem_inkAll j), fun r g b s => ⟨decodeOfEncode (.quantize r g b), rfl⟩⟩
  · cases i <;> rfl
  · simp only [inkDist, chanDiff, sq]

/-- Settles O19: the matcher is a search over the palette in declaration order. -/
theorem matchFirstWithinTolerance : Obligations.MatchFirstWithinTolerance := by
  intro cfg r g b tol i _
  rw [matchInk_eq_some_iff, matchInk_eq_none_iff]
  simp only [inkWithin_iff]
  exact ⟨Iff.rfl, Iff.rfl⟩

/-- Settles O20; the meaning's `clampTol` and `matchResult` are the clamp and the result word written out. -/
theorem matchOperation : Obligations.MatchOperation :=
  fun r g b _ => ⟨decodeOfEncode (.matchColor r g b), rfl⟩

/-- Settles O21: the raster's port, the detection over every destination pixel, and the operation with its two checks. -/
theorem autoDetectOperation : Obligations.AutoDetectOperation := by
  refine ⟨⟨fun fill front back sx sy c h => ?_, fun f cells sx sy h => ?_, fun sx sy sx' sy' hx hx' heq => by omega⟩,
    fun cfg r t tol => autoDetect_iff, fun s => ⟨fun hres hvalid => ?_, fun hres => ?_, fun hres hvalid => ?_, by decide⟩⟩
  · rw [srcRead, sampleKey, sampleListed_append h, sampleListed, if_pos rfl, Option.getD_some]
  · rw [srcRead, sampleKey, sampleListed_eq_none h, Option.getD_none, Option.getD_some]
  · exact (outcome_requireLegal (beq_iff_eq.2 hres)).trans (outcome_requireSource hvalid)
  · exact outcome_requireLegal_illegal fun h => hres (beq_iff_eq.1 h)
  · exact (outcome_requireLegal (beq_iff_eq.2 hres)).trans (outcome_requireSource_invalid hvalid)

/-- Settles O22: the thresholds of a well-formed configuration bound the delta and the sums. -/
theorem ditherClampsEachChannel : Obligations.DitherClampsEachChannel := by
  refine ⟨fun cfg x y => ⟨_, getElem?_quadList_mod cfg.bayer y, getElem?_quadList_mod _ x⟩, fun cfg c x y h => ?_⟩
  intro d
  obtain ⟨hlo, hhi⟩ := bayerAt_mem_Icc h x y
  have hd : -40 ≤ d ∧ d ≤ 35 ∧ d % 5 = 0 := by omega
  exact ⟨hd, fun v _ => by omega, toNat_ditherChan _ _, toNat_ditherChan _ _, toNat_ditherChan _ _⟩

/-- Settles O23: the coordinate word of ARG0 passes the check exactly where the statement has it legal. -/
theorem ditherOperation : Obligations.DitherOperation := by
  intro r g b s x y c
  refine ⟨decodeOfEncode (.dither r g b), fun hres hx hy => ?_, fun hbad => ?_⟩
  · exact outcome_requireLegal ((coordOk_iff _).2 ⟨hres, hx, hy⟩)
  · refine outcome_requireLegal_illegal fun h => ?_
    obtain ⟨hres, hx, hy⟩ := (coordOk_iff _).1 h
    exact hbad.elim (· hres) (·.elim hx.not_gt hy.not_gt)

/-- Settles O24: the four paths, then the operation with the checks of its two operand words. -/
theorem mapPixelOperation : Obligations.MapPixelOperation := by
  refine ⟨by decide, fun cfg c x y ordered tol => ⟨fun m hm => ?_, fun hm => ?_, rfl, rfl⟩, fun r g b s => ?_⟩
  · simp [mapInk, hm]
  · simp [mapInk, hm]
  · intro x y m
    refine ⟨decodeOfEncode (.mapPixel r g b), fun hres hx hy hmode => ?_, fun hbad => ?_⟩
    · exact outcome_requireLegal ((Bool.and_eq_true _ _).mpr ⟨(modeReservedOk_iff _).2 hmode, (coordOk_iff _).2 ⟨hres, hx, hy⟩⟩)
    · refine outcome_requireLegal_illegal fun h => ?_
      obtain ⟨hmode, hcoord⟩ := (Bool.and_eq_true _ _).mp h
      obtain ⟨hres, hx, hy⟩ := (coordOk_iff _).1 hcoord
      exact hbad.elim (· hres) (·.elim hx.not_gt (·.elim hy.not_gt (· ((modeReservedOk_iff _).1 hmode))))

/-- Settles O25: each raw option is clamped on its own. -/
theorem resolveOptsOperation : Obligations.ResolveOptsOperation := by
  refine ⟨fun rot mode dith tol => ⟨?_, toNat_code_rawMode mode, ?_, ?_⟩, fun s => ⟨by decide, rfl⟩⟩
  · simp [resolveRaw, rawRot180]
  · exact rawOrdered_eq_clamp dith
  · exact natCast_clampTol tol

/-- Settles O26: a reference colour is at distance 0 from its own entry alone, and a tolerance admits what a smaller one does. -/
theorem quantizerAndMatcherLaws : Obligations.QuantizerAndMatcherLaws := by
  refine ⟨fun cfg i hdistinct => ?_, fun cfg c => ?_, fun cfg c tol tol' htol h => matchInk_ne_none_mono htol h,
    fun cfg r t tol tol' htol h => ?_⟩
  · have hzero : inkDist cfg i (paletteRgb cfg i) = 0 := inkDist_eq_zero_iff.2 rfl
    refine ⟨quantizeInk_eq_of_nearer fun j hj => ?_, hzero⟩
    rw [hzero]
    refine (inkDist_nonneg _ _ _).lt_of_ne' fun h0 => hj ?_
    exact List.inj_on_of_nodup_map hdistinct (mem_inkAll j) (mem_inkAll i) (inkDist_eq_zero_iff.1 h0).symm
  · simp only [matchInk_ne_none_iff, inkWithin_zero_iff]
  · exact autoDetect_iff.2 fun x y hx hy => matchInk_ne_none_mono htol (autoDetect_iff.1 h x y hx hy)

/-- Settles O27: every reference channel is 0 or 255, so a sample within 64 of one entry is farther from every other. -/
theorem referenceMatchIsNearest : Obligations.ReferenceMatchIsNearest := by
  intro c tol i htol h
  obtain ⟨hi, -⟩ := matchInk_eq_some_iff.1 h
  exact quantizeInk_eq_of_nearer fun j hj => refConfig_within_nearest htol hi hj

end Sys2Proof.Proofs

/-! PROOFS: the buffer operations pixel by pixel (41_framebuffer.md R200, R204, R206): the nibble view of one write, the image that a colour
for every pixel gives, the half turn as such an image, and the spec's loops, which leave the one-pass images. -/

namespace Sys2Proof.Machine

open Sys2Proof

/-! ## Pixels and bytes -/

/-- Two pixels of the panel that share a byte sit in different halves of it. -/
theorem mod_two_ne_of_pixelAddr_eq {x y x' y' : Nat} (hx : x ≤ 799) (hx' : x' ≤ 799) (hne : (x', y') ≠ (x, y))
    (ha : pixelAddr x' y' = pixelAddr x y) : x % 2 ≠ x' % 2 := by
  intro hpar
  unfold pixelAddr at ha
  have hxx : x' = x := by omega
  have hyy : y' = y := by omega
  exact hne (by rw [hxx, hyy])

/-- The byte of pixel number `2k` is byte `k`. -/
theorem pixelAddr_even (k : Nat) : pixelAddr (2 * k % 800) (2 * k / 800) = k := by
  unfold pixelAddr
  omega

/-- The byte of pixel number `2k + 1` is byte `k`. -/
theorem pixelAddr_odd (k : Nat) : pixelAddr ((2 * k + 1) % 800) ((2 * k + 1) / 800) = k := by
  unfold pixelAddr
  omega

theorem nibbleOf_even {x : Nat} (h : x % 2 = 0) (b : Byte) : nibbleOf x b = hiNibble b := if_pos h

theorem nibbleOf_odd {x : Nat} (h : x % 2 = 1) (b : Byte) : nibbleOf x b = loNibble b :=
  if_neg (by rw [h]; exact Nat.one_ne_zero)

/-! ## One nibble write (41_framebuffer.md R200) -/

theorem Memory.lookup_setNib (fresh : Nat → Byte) (m : Memory) (x y : Nat) (c : Nibble) (a : Nat) :
    Memory.lookup (Memory.setNib fresh m x y c) a =
      if a = pixelAddr x y then some (withNibble x c (Memory.read fresh m a)) else Memory.lookup m a := by
  rw [Memory.setNib, Memory.lookup_write]
  split_ifs with h
  · rw [h]
  · rfl

theorem Memory.read_setNib (fresh : Nat → Byte) (m : Memory) (x y : Nat) (c : Nibble) (a : Nat) :
    Memory.read fresh (Memory.setNib fresh m x y c) a =
      if a = pixelAddr x y then withNibble x c (Memory.read fresh m a) else Memory.read fresh m a := by
  rw [Memory.setNib, Memory.read_write]
  split_ifs with h
  · rw [h]
  · rfl

theorem Memory.getNib_setNib_self (fresh : Nat → Byte) (m : Memory) (x y : Nat) (c : Nibble) :
    Memory.getNib fresh (Memory.setNib fresh m x y c) x y = c := by
  rw [Memory.getNib, Memory.read_setNib, if_pos rfl, nibbleOf_withNibble]

/-- A nibble write leaves every other pixel, the neighbour in the same byte included. -/
theorem Memory.getNib_setNib_other (fresh : Nat → Byte) (m : Memory) {x y x' y' : Nat} (c : Nibble) (hx : x ≤ 799) (hx' : x' ≤ 799)
    (hne : (x', y') ≠ (x, y)) : Memory.getNib fresh (Memory.setNib fresh m x y c) x' y' = Memory.getNib fresh m x' y' := by
  rw [Memory.getNib, Memory.read_setNib]
  split_ifs with ha
  · exact nibbleOf_withNibble_other (mod_two_ne_of_pixelAddr_eq hx hx' hne ha) c _
  · rfl

/-! ## Buffers made of an image -/

theorem Memory.read_ofImage (fresh : Nat → Byte) {img : Image} {i : Nat} {v : Byte} (h : img[i]? = some v) :
    Memory.read fresh (Memory.ofImage img) i = v := by
  rw [Memory.read, Memory.lookup_ofImage, h, Option.getD_some]

/-- A canonical buffer that holds the bytes of `img` from address `a` to its end has no other cells. -/
theorem Memory.eq_cellsFrom {img : Image} {a : Nat} {m : Memory} (hm : Memory.wfFrom a m = true) (hlen : a + img.length = 192000)
    (h : ∀ i v, img[i]? = some v → Memory.lookup m (a + i) = some v) : m = Memory.cellsFrom a img := by
  induction img generalizing a m with
  | nil =>
    cases m with
    | nil => rfl
    | cons c rest =>
      obtain ⟨hab, hb, -⟩ := (Memory.wfFrom_cons _ _ _ _).1 hm
      simp only [List.length_nil] at hlen
      omega
  | cons v img ih =>
    have hfirst : Memory.lookup m a = some v := h 0 v rfl
    cases m with
    | nil => cases hfirst
    | cons c rest =>
      obtain ⟨b, w⟩ := c
      obtain ⟨hab, hb, hrest⟩ := (Memory.wfFrom_cons _ _ _ _).1 hm
      have hba : a = b := by
        by_contra hne
        have hwf : Memory.wfFrom b ((b, w) :: rest) = true := (Memory.wfFrom_cons _ _ _ _).2 ⟨le_refl b, hb, hrest⟩
        rw [Memory.lookup_eq_none_of_lt hwf (by omega)] at hfirst
        cases hfirst
      subst hba
      rw [Memory.lookup, if_pos rfl] at hfirst
      obtain rfl := Option.some.inj hfirst
      have htail : rest = Memory.cellsFrom (a + 1) img := by
        refine ih hrest (by rw [List.length_cons] at hlen; omega) fun i u hu => ?_
        have hi := h (i + 1) u hu
        rwa [Memory.lookup, if_neg (by omega), show a + (i + 1) = a + 1 + i by omega] at hi
      rw [htail, Memory.cellsFrom]

/-- A canonical buffer that holds every byte of an image is the buffer made of it. -/
theorem Memory.eq_ofImage {img : Image} {m : Memory} (hm : Memory.wf m = true) (hlen : img.length = 192000)
    (h : ∀ i < 192000, Memory.lookup m i = img[i]?) : m = Memory.ofImage img := by
  refine Memory.eq_cellsFrom hm (by rw [hlen]) fun i v hv => ?_
  obtain ⟨hi, -⟩ := List.getElem?_eq_some_iff.1 hv
  rw [Nat.zero_add, h i (by omega), hv]

theorem getElem?_fillImage (v : Byte) {i : Nat} (hi : i < 192000) : (fillImage v)[i]? = some v :=
  List.getElem?_replicate_of_lt hi

/-- The half turn's image is the byte reversal with the nibbles of each byte exchanged (41_framebuffer.md R206). -/
theorem getElem?_rot180Image {img : Image} (hlen : img.length = 192000) {k : Nat} (hk : k < 192000) :
    (rot180Image img)[191999 - k]? = img[k]?.map swapNibbles := by
  rw [rot180Image, List.getElem?_reverse (by rw [List.length_map]; omega), List.getElem?_map, List.length_map, hlen]
  congr 2
  omega

/-! ## The image of a colouring -/

/-- The image whose pixel `(x, y)` is `d x y`: pixel number `2k` in the high nibble of byte `k`, `2k + 1` in the low one
(20_memory.md R82). -/
def pixelImage (d : Nat → Nat → Nibble) : Image :=
  (List.range' 0 192000).map fun k =>
    packNibbles (d (2 * k % 800) (2 * k / 800)) (d ((2 * k + 1) % 800) ((2 * k + 1) / 800))

theorem renderImage_eq_pixelImage (cfg : Config) (r : Raster) (t six ordered : Bool) (tol : Nat) :
    renderImage cfg r t six ordered tol = pixelImage (pixelCode cfg r t six ordered tol) := rfl

@[simp] theorem length_pixelImage (d : Nat → Nat → Nibble) : (pixelImage d).length = 192000 := by
  rw [pixelImage, List.length_map, List.length_range']

theorem getElem?_pixelImage (d : Nat → Nat → Nibble) {k : Nat} (hk : k < 192000) : (pixelImage d)[k]? =
    some (packNibbles (d (2 * k % 800) (2 * k / 800)) (d ((2 * k + 1) % 800) ((2 * k + 1) / 800))) := by
  rw [pixelImage, List.getElem?_map, List.getElem?_range' hk, Option.map_some, Nat.zero_add, Nat.one_mul]

/-- The buffer made of a colouring's image has the colouring's pixels. -/
theorem Memory.getNib_ofImage_pixelImage (fresh : Nat → Byte) (d : Nat → Nat → Nibble) {x y : Nat} (hx : x ≤ 799) (hy : y ≤ 479) :
    Memory.getNib fresh (Memory.ofImage (pixelImage d)) x y = d x y := by
  rw [Memory.getNib, Memory.read_ofImage fresh (getElem?_pixelImage d (pixelAddr_lt hx hy))]
  unfold pixelAddr
  rcases Nat.mod_two_eq_zero_or_one x with h | h
  · rw [nibbleOf_even h, hiNibble_packNibbles]
    congr 1 <;> omega
  · rw [nibbleOf_odd h, loNibble_packNibbles]
    congr 1 <;> omega

/-- The colouring of a buffer's half turn (41_framebuffer.md R204). -/
def halfTurn (fresh : Nat → Byte) (m : Memory) (x y : Nat) : Nibble := Memory.getNib fresh m (799 - x) (479 - y)

/-- Pixel number `2k` of the half turn is the low nibble of the byte at the same distance from the end. -/
theorem halfTurn_even (fresh : Nat → Byte) (m : Memory) {k : Nat} (hk : k < 192000) :
    halfTurn fresh m (2 * k % 800) (2 * k / 800) = loNibble (Memory.read fresh m (191999 - k)) := by
  have ha : pixelAddr (799 - 2 * k % 800) (479 - 2 * k / 800) = 191999 - k := by
    unfold pixelAddr
    omega
  rw [halfTurn, Memory.getNib, ha, nibbleOf_odd (by omega)]

/-- Pixel number `2k + 1` of the half turn is the high nibble of the byte at the same distance from the end. -/
theorem halfTurn_odd (fresh : Nat → Byte) (m : Memory) {k : Nat} (hk : k < 192000) :
    halfTurn fresh m ((2 * k + 1) % 800) ((2 * k + 1) / 800) = hiNibble (Memory.read fresh m (191999 - k)) := by
  have ha : pixelAddr (799 - (2 * k + 1) % 800) (479 - (2 * k + 1) / 800) = 191999 - k := by
    unfold pixelAddr
    omega
  rw [halfTurn, Memory.getNib, ha, nibbleOf_even (by omega)]

/-- The byte form of the half turn is its pixel form (41_framebuffer.md R204, R206). -/
theorem rot180Image_image (fresh : Nat → Byte) {m : Memory} (hm : Memory.wf m = true) :
    rot180Image (Memory.image fresh m) = pixelImage (halfTurn fresh m) := by
  apply List.ext_getElem?
  intro k
  by_cases hk : k < 192000
  · have hback : 191999 - (191999 - k) = k := by omega
    have hturn := getElem?_rot180Image (Memory.length_image fresh m) (k := 191999 - k) (by omega)
    rw [hback, Memory.getElem?_image fresh hm (by omega), Option.map_some] at hturn
    rw [hturn, getElem?_pixelImage _ hk, halfTurn_even fresh m hk, halfTurn_odd fresh m hk, swapNibbles]
  · rw [List.getElem?_eq_none (by rw [length_rot180Image, Memory.length_image]; omega),
      List.getElem?_eq_none (by rw [length_pixelImage]; omega)]

/-! ## The byte loops (41_framebuffer.md R201, R204) -/

/-- A loop of byte writes, one at each address of `l`. -/
theorem Memory.lookup_foldl_write (f : Nat → Byte) (l : List Nat) (m : Memory) (a : Nat) :
    Memory.lookup (l.foldl (fun m i => Memory.write m i (f i)) m) a = if a ∈ l then some (f a) else Memory.lookup m a := by
  induction l generalizing m with
  | nil => rfl
  | cons i l ih =>
    rw [List.foldl_cons, ih, Memory.lookup_write]
    by_cases hl : a ∈ l
    · rw [if_pos hl, if_pos (List.mem_cons_of_mem i hl)]
    · by_cases hi : a = i
      · rw [if_neg hl, if_pos hi, hi, if_pos List.mem_cons_self]
      · rw [if_neg hl, if_neg hi, if_neg (List.not_mem_cons_of_ne_of_not_mem hi hl)]

theorem Memory.wf_foldl_write (f : Nat → Byte) {l : List Nat} (hl : ∀ i ∈ l, i < 192000) {m : Memory} (hm : Memory.wf m = true) :
    Memory.wf (l.foldl (fun m i => Memory.write m i (f i)) m) = true := by
  induction l generalizing m with
  | nil => exact hm
  | cons i l ih =>
    exact ih (fun j hj => hl j (List.mem_cons_of_mem i hj)) (Memory.wf_write hm (hl i List.mem_cons_self) (f i))

/-- A loop over all addresses leaves the image of what it writes, whatever was there. -/
theorem Memory.foldl_write_eq_ofImage {f : Nat → Byte} {img : Image} (hlen : img.length = 192000)
    (hf : ∀ i < 192000, img[i]? = some (f i)) {m : Memory} (hm : Memory.wf m = true) :
    (List.range' 0 192000).foldl (fun m i => Memory.write m i (f i)) m = Memory.ofImage img := by
  have hmem : ∀ i, i ∈ List.range' 0 192000 ↔ i < 192000 := fun i => by
    rw [List.mem_range'_1]
    omega
  refine Memory.eq_ofImage (Memory.wf_foldl_write f (fun i hi => (hmem i).1 hi) hm) hlen fun i hi => ?_
  rw [Memory.lookup_foldl_write, if_pos ((hmem i).2 hi), hf i hi]

theorem clearLoop_eq_ofImage (v : Byte) {m : Memory} (hm : Memory.wf m = true) : clearLoop v m = Memory.ofImage (fillImage v) :=
  Memory.foldl_write_eq_ofImage (length_fillImage v) (fun _ hi => getElem?_fillImage v hi) hm

theorem copyLoop_eq_ofImage (fresh : Nat → Byte) {fb m : Memory} (hfb : Memory.wf fb = true) (hm : Memory.wf m = true) :
    copyLoop fresh fb m = Memory.ofImage (Memory.image fresh fb) :=
  Memory.foldl_write_eq_ofImage (Memory.length_image fresh fb) (fun _ hi => Memory.getElem?_image fresh hfb hi) hm

/-! ## The pixel loops (41_framebuffer.md R204, 43_render.md R292) -/

/-- Pixel `(x, y)` of `m` has been written and has the code `c`. -/
def Memory.Painted (m : Memory) (x y : Nat) (c : Nibble) : Prop :=
  ∃ b, Memory.lookup m (pixelAddr x y) = some b ∧ nibbleOf x b = c

theorem Memory.painted_setNib_self (fresh : Nat → Byte) (m : Memory) (x y : Nat) (c : Nibble) :
    Memory.Painted (Memory.setNib fresh m x y c) x y c :=
  ⟨_, by rw [Memory.lookup_setNib, if_pos rfl], nibbleOf_withNibble _ _ _⟩

/-- A pixel written stays as it is when another one is. -/
theorem Memory.Painted.setNib_other {m : Memory} {x y x' y' : Nat} {c' : Nibble} (h : Memory.Painted m x' y' c') (fresh : Nat → Byte)
    (c : Nibble) (hx : x ≤ 799) (hx' : x' ≤ 799) (hne : (x', y') ≠ (x, y)) :
    Memory.Painted (Memory.setNib fresh m x y c) x' y' c' := by
  obtain ⟨b, hb, hc⟩ := h
  rw [Memory.Painted, Memory.lookup_setNib]
  split_ifs with ha
  · refine ⟨_, rfl, ?_⟩
    rw [nibbleOf_withNibble_other (mod_two_ne_of_pixelAddr_eq hx hx' hne ha), Memory.read, hb, Option.getD_some, hc]
  · exact ⟨b, hb, hc⟩

/-- A canonical buffer all of whose pixels have been written with the colouring `d` is the buffer made of its image. -/
theorem Memory.eq_ofImage_pixelImage {m : Memory} {d : Nat → Nat → Nibble} (hm : Memory.wf m = true)
    (h : ∀ x y, x ≤ 799 → y ≤ 479 → Memory.Painted m x y (d x y)) : m = Memory.ofImage (pixelImage d) := by
  refine Memory.eq_ofImage hm (length_pixelImage d) fun k hk => ?_
  obtain ⟨b, hb, hhi⟩ := h (2 * k % 800) (2 * k / 800) (by omega) (by omega)
  obtain ⟨b', hb', hlo⟩ := h ((2 * k + 1) % 800) ((2 * k + 1) / 800) (by omega) (by omega)
  rw [pixelAddr_even] at hb
  rw [pixelAddr_odd, hb] at hb'
  obtain rfl := Option.some.inj hb'
  rw [nibbleOf_even (by omega)] at hhi
  rw [nibbleOf_odd (by omega)] at hlo
  rw [getElem?_pixelImage d hk, hb, ← hhi, ← hlo, packNibbles_eta]

/-- The pixels of `l`, written in turn with the colouring `d`. -/
def paintPixels (fresh : Nat → Byte) (d : Nat → Nat → Nibble) (l : List (Nat × Nat)) (m : Memory) : Memory :=
  l.foldl (fun m p => Memory.setNib fresh m p.1 p.2 (d p.1 p.2)) m

theorem wf_paintPixels (fresh : Nat → Byte) (d : Nat → Nat → Nibble) {l : List (Nat × Nat)} (hl : ∀ p ∈ l, p.1 ≤ 799 ∧ p.2 ≤ 479)
    {m : Memory} (hm : Memory.wf m = true) : Memory.wf (paintPixels fresh d l m) = true := by
  induction l generalizing m with
  | nil => exact hm
  | cons p l ih =>
    obtain ⟨hx, hy⟩ := hl p List.mem_cons_self
    exact ih (fun q hq => hl q (List.mem_cons_of_mem p hq)) (Memory.wf_setNib hm fresh hx hy _)

/-- A pixel of `l` ends with its colour, however often it is written, for each write gives it that colour. -/
theorem painted_paintPixels (fresh : Nat → Byte) (d : Nat → Nat → Nibble) {l : List (Nat × Nat)}
    (hl : ∀ p ∈ l, p.1 ≤ 799 ∧ p.2 ≤ 479) {m : Memory} {x y : Nat} (hx : x ≤ 799)
    (h : (x, y) ∈ l ∨ Memory.Painted m x y (d x y)) : Memory.Painted (paintPixels fresh d l m) x y (d x y) := by
  induction l generalizing m with
  | nil => exact h.resolve_left List.not_mem_nil
  | cons p l ih =>
    refine ih (fun q hq => hl q (List.mem_cons_of_mem p hq)) ?_
    by_cases hp : (x, y) = p
    · subst hp
      exact .inr (Memory.painted_setNib_self fresh m x y _)
    · rcases h with hmem | hpainted
      · exact .inl ((List.mem_cons.1 hmem).resolve_left hp)
      · exact .inr (hpainted.setNib_other fresh _ (hl p List.mem_cons_self).1 hx hp)

/-- The pixels of the panel, row by row. -/
def panelPixels : List (Nat × Nat) := (List.range' 0 480).flatMap fun y => (List.range' 0 800).map fun x => (x, y)

theorem mem_panelPixels {x y : Nat} : (x, y) ∈ panelPixels ↔ x ≤ 799 ∧ y ≤ 479 := by
  simp only [panelPixels, List.mem_flatMap, List.mem_map, List.mem_range'_1, Prod.mk.injEq]
  constructor
  · rintro ⟨y', hy, x', hx, rfl, rfl⟩
    omega
  · rintro ⟨hx, hy⟩
    exact ⟨y, by omega, x, by omega, rfl, rfl⟩

/-- The pixel loop writes its destinations in turn, where the colour of each write is the colouring `d` at its destination. -/
theorem pixelLoop_eq_paintPixels {fx fy : Nat → Nat → Nat} {c d : Nat → Nat → Nibble}
    (hc : ∀ x y, x ≤ 799 → y ≤ 479 → c x y = d (fx x y) (fy x y)) (fresh : Nat → Byte) (m : Memory) :
    pixelLoop fresh fx fy c m = paintPixels fresh d (panelPixels.map fun p => (fx p.1 p.2, fy p.1 p.2)) m := by
  have hflat : pixelLoop fresh fx fy c m =
      panelPixels.foldl (fun m p => Memory.setNib fresh m (fx p.1 p.2) (fy p.1 p.2) (c p.1 p.2)) m := by
    simp only [pixelLoop, panelPixels, List.foldl_flatMap, List.foldl_map]
  rw [hflat, paintPixels, List.foldl_map]
  refine List.foldl_ext _ _ m fun m p hp => ?_
  obtain ⟨hx, hy⟩ := mem_panelPixels.1 hp
  rw [hc p.1 p.2 hx hy]

/-- A pixel loop whose destinations are all the pixels of the panel leaves the image of the colouring, whatever was there. -/
theorem pixelLoop_eq_ofImage {fx fy : Nat → Nat → Nat} {c d : Nat → Nat → Nibble}
    (hc : ∀ x y, x ≤ 799 → y ≤ 479 → c x y = d (fx x y) (fy x y))
    (hon : ∀ x y, x ≤ 799 → y ≤ 479 → fx x y ≤ 799 ∧ fy x y ≤ 479)
    (hall : ∀ x y, x ≤ 799 → y ≤ 479 → ∃ x' y', x' ≤ 799 ∧ y' ≤ 479 ∧ fx x' y' = x ∧ fy x' y' = y)
    (fresh : Nat → Byte) {m : Memory} (hm : Memory.wf m = true) :
    pixelLoop fresh fx fy c m = Memory.ofImage (pixelImage d) := by
  have hdest : ∀ p ∈ panelPixels.map fun p => (fx p.1 p.2, fy p.1 p.2), p.1 ≤ 799 ∧ p.2 ≤ 479 := by
    intro p hp
    obtain ⟨q, hq, rfl⟩ := List.mem_map.1 hp
    obtain ⟨hx, hy⟩ := mem_panelPixels.1 hq
    exact hon q.1 q.2 hx hy
  rw [pixelLoop_eq_paintPixels hc]
  refine Memory.eq_ofImage_pixelImage (wf_paintPixels fresh d hdest hm) fun x y hx hy => ?_
  obtain ⟨x', y', hx', hy', rfl, rfl⟩ := hall x y hx hy
  exact painted_paintPixels fresh d hdest hx (.inl (List.mem_map.2 ⟨(x', y'), mem_panelPixels.2 ⟨hx', hy'⟩, rfl⟩))

/-- The rotation loop meets every pixel, for the half turn of the panel is its own inverse. -/
theorem rotateLoop_eq_ofImage (freshFb freshTb : Nat → Byte) (fb : Memory) {m : Memory} (hm : Memory.wf m = true) :
    rotateLoop freshFb freshTb fb m = Memory.ofImage (pixelImage (halfTurn freshFb fb)) := by
  refine pixelLoop_eq_ofImage (fun x y hx hy => ?_) (fun x y _ _ => ⟨Nat.sub_le 799 x, Nat.sub_le 479 y⟩) (fun x y hx hy => ?_)
    freshTb hm
  · rw [halfTurn, Nat.sub_sub_self hx, Nat.sub_sub_self hy]
  · exact ⟨799 - x, 479 - y, Nat.sub_le 799 x, Nat.sub_le 479 y, Nat.sub_sub_self hx, Nat.sub_sub_self hy⟩

theorem renderLoop_eq_ofImage (fresh : Nat → Byte) (cfg : Config) (r : Raster) (t six ordered : Bool) (tol : Nat) {m : Memory}
    (hm : Memory.wf m = true) : renderLoop fresh cfg r t six ordered tol m = Memory.ofImage (renderImage cfg r t six ordered tol) := by
  rw [renderImage_eq_pixelImage]
  exact pixelLoop_eq_ofImage (fun _ _ _ _ => rfl) (fun _ _ hx hy => ⟨hx, hy⟩) (fun x y hx hy => ⟨x, y, hx, hy, rfl, rfl⟩) fresh hm

/-! ## What the operations leave in the buffers -/

theorem fbRead_clearFb (c : Nibble) (s : State) {i : Nat} (hi : i < 192000) : fbRead (clearFb c s) i = packNibbles c c :=
  Memory.read_ofImage Config.fbFresh (getElem?_fillImage _ hi)

/-- A rotation's result depends on FB alone (41_framebuffer.md R204). -/
theorem tb_rotateInto_congr (b : Bool) {s s' : State} (h : s'.fb = s.fb) : (rotateInto b s').tb = (rotateInto b s).tb := by
  simp only [rotateInto, State.setTb_tb, fbImage, h]

theorem tb_rotateInto_false (s : State) : (rotateInto false s).tb = Memory.ofImage (fbImage s) := rfl

theorem tb_rotateInto_true {s : State} (hfb : Memory.wf s.fb = true) :
    (rotateInto true s).tb = Memory.ofImage (pixelImage (halfTurn Config.fbFresh s.fb)) := by
  rw [← rot180Image_image Config.fbFresh hfb]
  rfl

theorem wf_tb_rotateInto (b : Bool) (s : State) : Memory.wf (rotateInto b s).tb = true :=
  Memory.wf_ofImage (by rw [length_rotateImage, fbImage, Memory.length_image])

theorem tbRead_rotateInto_false {s : State} (hfb : Memory.wf s.fb = true) {i : Nat} (hi : i < 192000) :
    tbRead (rotateInto false s) i = fbRead s i :=
  Memory.read_ofImage Config.tbFresh (Memory.getElem?_image Config.fbFresh hfb hi)

/-- The pixel form of the half turn (41_framebuffer.md R204). -/
theorem tbNib_rotateInto_true {s : State} (hfb : Memory.wf s.fb = true) {x y : Nat} (hx : x ≤ 799) (hy : y ≤ 479) :
    tbNib (rotateInto true s) (799 - x) (479 - y) = fbNib s x y := by
  rw [tbNib, tb_rotateInto_true hfb, Memory.getNib_ofImage_pixelImage _ _ (Nat.sub_le 799 x) (Nat.sub_le 479 y), halfTurn,
    Nat.sub_sub_self hx, Nat.sub_sub_self hy, fbNib]

/-- The byte form of the half turn (41_framebuffer.md R206). Every byte of TB is written, so it reads the same in place of FB. -/
theorem read_tb_rotateInto_true (fresh : Nat → Byte) {s : State} (hfb : Memory.wf s.fb = true) {k : Nat} (hk : k < 192000) :
    Memory.read fresh (rotateInto true s).tb (191999 - k) = swapNibbles (fbRead s k) := by
  refine Memory.read_ofImage fresh ?_
  show (rot180Image (fbImage s))[191999 - k]? = _
  rw [fbImage, getElem?_rot180Image (Memory.length_image _ _) hk, Memory.getElem?_image _ hfb hk, Option.map_some, fbRead]

/-! ## How the framebuffer operations end -/

theorem outcome_requireState {ok : Bool} {s : State} {body : Res} (h : ok = true) :
    outcome (requireState ok s body) = .next (Res.finish body) := by
  rw [outcome_eq, finish_requireState, if_pos h]

theorem outcome_requireState_absent {ok : Bool} {s : State} {body : Res} (h : ok = false) :
    outcome (requireState ok s body) = .next (endedWith .stateError 0#32 s) := by
  rw [outcome_eq, finish_requireState, h, if_neg Bool.false_ne_true]

/-! FB_GET and FB_SET check the coordinates first, then ALLOC_DONE. -/

section
variable {x y : Nat} {s : State} {body : Res}

theorem outcome_atPixel (hdone : s.allocDone = true) (hx : x ≤ 799) (hy : y ≤ 479) :
    outcome (requireLegal (onPanel x y) s (requireState s.allocDone s body)) = .next (Res.finish body) :=
  (outcome_requireLegal ((onPanel_iff x y).2 ⟨hx, hy⟩)).trans (outcome_requireState hdone)

theorem outcome_atPixel_absent (hno : s.allocDone = false) (hx : x ≤ 799) (hy : y ≤ 479) :
    outcome (requireLegal (onPanel x y) s (requireState s.allocDone s body)) = .next (endedWith .stateError 0#32 s) :=
  (outcome_requireLegal ((onPanel_iff x y).2 ⟨hx, hy⟩)).trans (outcome_requireState_absent hno)

theorem outcome_atPixel_offPanel (hout : 799 < x ∨ 479 < y) :
    outcome (requireLegal (onPanel x y) s (requireState s.allocDone s body)) = .next (endedWith .illegalCommand 0#32 s) := by
  refine outcome_requireLegal_illegal fun h => ?_
  obtain ⟨hx, hy⟩ := (onPanel_iff x y).1 h
  omega
end

theorem exec_rotate {s : State} (h : s.allocDone = true) :
    exec .rotate s = .next (endedOk (rotateInto (rawRot180 s.arg0.toInt) s)) :=
  outcome_requireState h

theorem rawRot180_of_eq_zero {raw : Int} (h : raw = 0) : rawRot180 raw = false := by rw [rawRot180, decide_eq_true h, Bool.not_true]

theorem rawRot180_of_ne_zero {raw : Int} (h : raw ≠ 0) : rawRot180 raw = true := by rw [rawRot180, decide_eq_false h, Bool.not_false]

theorem nibbleResult_eq_setWidth (c : Nibble) : nibbleResult c = c.setWidth 32 := by
  unfold nibbleResult
  grind

/-! ## Reserved bits of the framebuffer operations (30_encoding.md R120 step 2) -/

theorem whenReserved_refuses {z : Bool} {w : Word} {o : BitVec 8} (hz : z = false) (ho : opcField w = o) (i : Instr) :
    whenReserved z w i = .error (.reservedBits o) := by
  rw [whenReserved, hz, if_neg Bool.false_ne_true, ho]

theorem decode_fbClear_reserved {imm : BitVec 20} (himm : imm ≠ 0#20) (c : Nibble) :
    decode (0x20#8 ++ imm ++ c) = .error (.reservedBits 0x20#8) := by
  rw [decode, opcField_C]
  exact whenReserved_refuses (by rw [reserved_C, beq_false_of_ne himm]) (opcField_C _ _ _) _

theorem decode_fbGet_reserved {f : BitVec 1} {c : Nibble} (h : f ≠ 0#1 ∨ c ≠ 0#4) (y : BitVec 9) (x : BitVec 10) :
    decode (0x21#8 ++ f ++ c ++ y ++ x) = .error (.reservedBits 0x21#8) := by
  rw [decode, opcField_P]
  refine whenReserved_refuses ?_ (opcField_P _ _ _ _ _) _
  rw [fieldC_P, fieldT_P]
  rcases h with hf | hc
  · rw [beq_false_of_ne hf, Bool.and_false]
  · rw [beq_false_of_ne hc, Bool.false_and]

theorem decode_fbSet_reserved (c : Nibble) (y : BitVec 9) (x : BitVec 10) :
    decode (0x22#8 ++ 1#1 ++ c ++ y ++ x) = .error (.reservedBits 0x22#8) := by
  rw [decode, opcField_P]
  exact whenReserved_refuses (by rw [fieldT_P]; rfl) (opcField_P _ _ _ _ _) _

theorem decode_rotate_reserved {imm : BitVec 24} (himm : imm ≠ 0#24) :
    decode (0x23#8 ++ imm) = .error (.reservedBits 0x23#8) := by
  rw [decode, opcField_N]
  exact whenReserved_refuses (by rw [immField_N, beq_false_of_ne himm]) (opcField_N _ _) _

end Sys2Proof.Machine

/-! PROOFS: the statements about the framebuffer (41_framebuffer.md). -/

namespace Sys2Proof.Proofs

open Sys2Proof Sys2Proof.Machine

/-- Settles O28: a nibble write is a write of one byte, whose other half is the one read. -/
theorem nibbleAccess : Obligations.NibbleAccess := by
  intro fresh m x y c hx hy a b
  refine ⟨pixelAddr_lt hx hy, rfl, ?_, fun a' ha' => ?_⟩
  · exact (Memory.read_setNib fresh m x y c _).trans (if_pos rfl)
  · exact (Memory.read_setNib fresh m x y c a').trans (if_neg ha')

/-- Settles O29: another pixel is in another byte or in the other half of the same one. -/
theorem setThenGetPixel : Obligations.SetThenGetPixel :=
  fun fresh m x y c hx _ => ⟨Memory.getNib_setNib_self fresh m x y c,
    fun _ _ hx' _ hne => Memory.getNib_setNib_other fresh m c hx hx' hne⟩

/-- Settles O30: the buffer FB_CLEAR leaves is made of the image of one byte. -/
theorem fbClearOperation : Obligations.FbClearOperation := by
  refine fun color s => ⟨decodeOfEncode (.fbClear color), fun imm himm => decode_fbClear_reserved himm color,
    fun hno => outcome_requireState_absent hno, fun hdone => ?_⟩
  exact ⟨endedOk (clearFb color s), outcome_requireState hdone, rfl, fun i hi => fbRead_clearFb color s hi⟩

/-- Settles O31: the range is checked before the precondition, and RESULT is the nibble, zero-extended. -/
theorem fbGetOperation : Obligations.FbGetOperation := by
  refine fun x y s => ⟨decodeOfEncode (.fbGet x y), fun f c h => decode_fbGet_reserved h y x,
    fun hno hx hy => outcome_atPixel_absent hno hx hy, fun hdone hx hy => ?_, fun hout => outcome_atPixel_offPanel hout⟩
  rw [← nibbleResult_eq_setWidth]
  exact outcome_atPixel hdone hx hy

/-- Settles O32: one nibble write, after the same two checks. -/
theorem fbSetOperation : Obligations.FbSetOperation := by
  refine fun x y c s => ⟨decodeOfEncode (.fbSet x y c), decode_fbSet_reserved c y x,
    fun hno hx hy => outcome_atPixel_absent hno hx hy, fun hdone hx hy => ?_, fun hout => outcome_atPixel_offPanel hout⟩
  refine ⟨endedOk (setFbNib x.toNat y.toNat c s), outcome_atPixel hdone hx hy, rfl, Memory.getNib_setNib_self _ _ _ _ _,
    fun a ha => ?_⟩
  exact (Memory.read_setNib _ _ _ _ _ a).trans (if_neg ha)

/-- Settles O33: TB is the image of FB, or its half turn, and ROTATE looks at FB and ARG0 alone. -/
theorem rotateOperation : Obligations.RotateOperation := by
  refine ⟨fun s hdone hfb => ⟨_, exec_rotate hdone, rfl, fun hzero i hi => ?_, fun hne x y hx hy => ?_⟩,
    fun s s' t t' hdone hdone' hfb harg ht ht' => ?_, by decide, fun imm himm => decode_rotate_reserved himm,
    fun s hno => outcome_requireState_absent hno⟩
  · rw [rawRot180_of_eq_zero hzero]
    exact tbRead_rotateInto_false hfb hi
  · rw [rawRot180_of_ne_zero hne]
    exact tbNib_rotateInto_true hfb hx hy
  · obtain rfl := Host.Outcome.next.inj ((exec_rotate hdone).symm.trans ht)
    obtain rfl := Host.Outcome.next.inj ((exec_rotate hdone').symm.trans ht')
    rw [harg]
    exact tb_rotateInto_congr _ hfb

/-- Settles O34: the byte form twice, the nibbles of each byte exchanged and exchanged back. -/
theorem halfTurnByteFormAndInvolution : Obligations.HalfTurnByteFormAndInvolution := by
  refine ⟨fun s hfb k hk => read_tb_rotateInto_true Config.tbFresh hfb hk, fun s hfb i hi => ?_⟩
  have hback : 191999 - (191999 - i) = i := by omega
  have hfirst := read_tb_rotateInto_true Config.fbFresh hfb hi
  have hsecond := read_tb_rotateInto_true Config.tbFresh (s := { s with fb := (rotateInto true s).tb })
    (wf_tb_rotateInto true s) (k := 191999 - i) (by omega)
  rw [hback] at hsecond
  refine hsecond.trans ?_
  rw [fbRead, hfirst, swapNibbles_swapNibbles]

/-- Settles O35: each loop writes every byte, or every pixel, of the buffer, and a canonical buffer is known by its bytes. -/
theorem pixelLoopsLeaveTheModelsBuffers : Obligations.PixelLoopsLeaveTheModelsBuffers := by
  refine fun m hm => ⟨fun v => clearLoop_eq_ofImage v hm, fun s hfb => ?_, fun s hfb => ?_,
    fun cfg r t six ordered tol => renderLoop_eq_ofImage _ cfg r t six ordered tol hm⟩
  · rw [tb_rotateInto_false]
    exact copyLoop_eq_ofImage Config.fbFresh hfb hm
  · rw [tb_rotateInto_true hfb]
    exact rotateLoop_eq_ofImage Config.fbFresh Config.tbFresh s.fb hm

end Sys2Proof.Proofs

/-! PROOFS: what INIT does, in the terms of `withBuffers` and `withBus`, and the driver state machine (42_panel_protocol.md R230). -/

namespace Sys2Proof.Machine

open Sys2Proof

/-! ## INIT in its three outcomes -/

theorem withBuffers_of_done {s : State} (h : s.allocDone = true) : withBuffers s = s := if_pos h

theorem withBuffers_of_absent {s : State} (h : s.allocDone = false) : withBuffers s = allocated (State.tookAlloc s) := by
  rw [withBuffers, h, if_neg Bool.false_ne_true]

theorem withBus_of_ready {s : State} (h : s.busReady = true) : withBus s = s := if_pos h

theorem withBus_of_absent {s : State} (h : s.busReady = false) : withBus s = busConfigured (State.tookBusCfg s) := by
  rw [withBus, h, if_neg Bool.false_ne_true]

/-- Allocation: skipped, good or failed (42_panel_protocol.md R232, R249). -/
theorem allocate_eq (s : State) : allocate s =
    if s.allocDone = true ∨ allocNow s = true then .done (withBuffers s)
    else .raised ⟨.allocationError, 0x05, 0⟩ (State.tookAlloc s) := by
  unfold allocate withBuffers
  cases s.allocDone <;> cases allocNow s <;> rfl

/-- Bus configuration: skipped, good or failed (42_panel_protocol.md R233, R249). -/
theorem busConfigure_eq (s : State) : busConfigure s =
    if s.busReady = true ∨ busCfgNow s = true then .done (withBus s)
    else .raised ⟨.busError, 0x04, 0⟩ (State.tookBusCfg s) := by
  unfold busConfigure withBus
  cases s.busReady <;> cases busCfgNow s <;> rfl

theorem busCfgNow_withBuffers (s : State) : busCfgNow (withBuffers s) = busCfgNow s := by unfold withBuffers; split <;> rfl

/-- How INIT begins: it fails to allocate, or it has buffers and fails to configure the bus, or it has both and goes on. -/
inductive InitBegins (s : State) : Res → Prop where
  | noBuffers (ha : ¬(s.allocDone = true ∨ allocNow s = true)) :
      InitBegins s (.raised ⟨.allocationError, 0x05, 0⟩ (State.setDrv .uninitialized (State.tookAlloc s)))
  | noBus (ha : s.allocDone = true ∨ allocNow s = true) (hb : ¬(s.busReady = true ∨ busCfgNow s = true)) :
      InitBegins s (.raised ⟨.busError, 0x04, 0⟩ (State.setDrv .uninitialized (State.tookBusCfg (withBuffers s))))
  | onBus (ha : s.allocDone = true ∨ allocNow s = true) (hb : s.busReady = true ∨ busCfgNow s = true) :
      InitBegins s (Res.onError (initTail (initBusReady s)) (State.setDrv .uninitialized))

theorem initDriver_begins (s : State) : InitBegins s (initDriver s) := by
  rw [initDriver_eq, allocate_eq]
  by_cases ha : s.allocDone = true ∨ allocNow s = true
  · rw [if_pos ha]
    show InitBegins s (Res.onError (Res.andThen (busConfigure (withBuffers s)) _) _)
    rw [busConfigure_eq, withBuffers_busReady, busCfgNow_withBuffers]
    by_cases hb : s.busReady = true ∨ busCfgNow s = true
    · rw [if_pos hb]
      exact .onBus ha hb
    · rw [if_neg hb]
      exact .noBus ha hb
  · rw [if_neg ha]
    exact .noBuffers ha

theorem initDriver_of_onBus {s : State} (ha : s.allocDone = true ∨ allocNow s = true)
    (hb : s.busReady = true ∨ busCfgNow s = true) :
    initDriver s = Res.onError (initTail (initBusReady s)) (State.setDrv .uninitialized) := by
  have h := initDriver_begins s
  generalize initDriver s = r at h
  cases h with
  | noBuffers hno => exact absurd ha hno
  | noBus _ hno => exact absurd hb hno
  | onBus => rfl

/-! ## Writes of DRV_STATE -/

/-- From `s` to `t` the values `l` were written to DRV_STATE, which holds the last of them (10_state.md R31). -/
structure DrvWritten (s t : State) (l : List DrvState) : Prop where
  log  : t.drvLog = s.drvLog ++ l
  last : t.drv = l.getLastD s.drv

theorem DrvWritten.nothing {s t : State} (hl : t.drvLog = s.drvLog) (hd : t.drv = s.drv) : DrvWritten s t [] :=
  ⟨hl.trans (List.append_nil _).symm, hd⟩

theorem DrvWritten.trans {s t u : State} {l l' : List DrvState} (h : DrvWritten s t l) (h' : DrvWritten t u l') :
    DrvWritten s u (l ++ l') :=
  ⟨by rw [h'.log, h.log, List.append_assoc], by rw [h'.last, h.last]; simp [List.getLastD_eq_getLast?, List.getLast?_append]⟩

/-- A part that leaves DRV_STATE alone, after writes of it. -/
theorem DrvWritten.congr {s t u : State} {l : List DrvState} (h : DrvWritten s t l) (hl : u.drvLog = t.drvLog) (hd : u.drv = t.drv) :
    DrvWritten s u l :=
  ⟨hl.trans h.log, hd.trans h.last⟩

theorem DrvWritten.setDrv {s t : State} {l : List DrvState} (h : DrvWritten s t l) (d : DrvState) :
    DrvWritten s (State.setDrv d t) (l ++ [d]) := h.trans ⟨rfl, rfl⟩

theorem HostFrame.drvWritten {s t : State} (h : HostFrame s t) : DrvWritten s t [] := by
  unfold HostFrame at h
  rw [h]
  exact .nothing rfl rfl

theorem withBuffers_drvWritten (s : State) : DrvWritten s (withBuffers s) [] := by
  unfold withBuffers
  split <;> exact .nothing rfl rfl

theorem withBus_drvWritten {s t : State} (h : DrvWritten s t []) : DrvWritten s (withBus t) [] := by
  unfold withBus
  split
  · exact h
  · exact h.congr (busConfigured_drvLog _) (busConfigured_drv _)

theorem initBusReady_drvWritten (s : State) : DrvWritten s (initBusReady s) [.busReady] :=
  (withBus_drvWritten (withBuffers_drvWritten s)).setDrv .busReady

/-- The flush of FLUSH and RENDER, error or not (42_panel_protocol.md R248). -/
theorem flushFromIdle_drvWritten (s : State) : DrvWritten s (Res.finish (flushFromIdle s)) [.flushing, .idle] := by
  have hflushed := ((DrvWritten.nothing rfl rfl : DrvWritten s s []).setDrv .flushing).setDrv .idle
  obtain ⟨es, n, m, -, hr | ⟨e, hr, -⟩⟩ := flushFromIdle_cases s <;> rw [hr] <;> exact hflushed.congr rfl rfl

/-- INIT from BusReady on goes up to Idle, or at some point back to Uninitialized (42_panel_protocol.md R249, 60_exceptions.md R329). -/
theorem initTail_drvWritten (s : State) :
    ∃ l, DrvWritten s (Res.finish (Res.onError (initTail s) (State.setDrv .uninitialized))) l ∧ drvChain .busReady l = true := by
  have hstart : DrvWritten s s [] := .nothing rfl rfl
  have hflushing := (hstart.setDrv .panelConfigured).setDrv .flushing
  rcases initTail_cases s with ⟨es, n, m, e, -, -, -, hr⟩ | ⟨es, n, m, -, ⟨e, -, -, hr⟩ | hr⟩ <;> rw [hr]
  · exact ⟨_, (hstart.setDrv .uninitialized).congr rfl rfl, rfl⟩
  · exact ⟨_, (hflushing.setDrv .uninitialized).congr rfl rfl, rfl⟩
  · exact ⟨_, (hflushing.setDrv .idle).congr rfl rfl, rfl⟩

/-- INIT writes Uninitialized alone where it finds no buffers or no bus, which is never the case in Idle; else a chain from BusReady. -/
theorem initDriver_drvWritten {s : State} (hs : Inv s) (hd : s.drv ≠ .closed) :
    ∃ l, DrvWritten s (Res.finish (initDriver s)) l ∧ drvChain s.drv l = true := by
  have hrest : s.drv = .uninitialized ∨ s.drv = .idle ∧ s.busReady = true ∧ s.allocDone = true := by
    rcases hs.resting with h | h | h
    · exact .inl h
    · exact .inr ⟨h, hs.idleHas h, hs.busAlloc (hs.idleHas h)⟩
    · exact absurd h hd
  have h := initDriver_begins s
  generalize initDriver s = r at h
  cases h with
  | noBuffers ha =>
    rcases hrest with h | ⟨-, -, hdone⟩
    · exact ⟨[.uninitialized], ⟨rfl, rfl⟩, by rw [h]; rfl⟩
    · exact absurd (.inl hdone) ha
  | noBus _ hb =>
    rcases hrest with h | ⟨-, hready, -⟩
    · exact ⟨[.uninitialized], ((withBuffers_drvWritten s).setDrv .uninitialized).congr rfl rfl, by rw [h]; rfl⟩
    · exact absurd (.inl hready) hb
  | onBus =>
    obtain ⟨l, hw, hl⟩ := initTail_drvWritten (initBusReady s)
    refine ⟨_, (initBusReady_drvWritten s).trans hw, ?_⟩
    rcases hrest with h | ⟨h, -⟩ <;> rw [h] <;> exact hl

/-- Every operation writes allowed transitions (42_panel_protocol.md R230). -/
theorem ExecShape.drvWritten {i : Instr} {s t : State} (h : ExecShape i s t) (hs : Inv s) :
    ∃ l, DrvWritten s t l ∧ drvChain s.drv l = true := by
  cases h with
  | refused | result | detected | closedAgain | cleared | pixelSet | rotated | panelReset => exact ⟨[], .nothing rfl rfl, rfl⟩
  | closed _ hd =>
    refine ⟨[.closed], ⟨rfl, rfl⟩, ?_⟩
    rcases hs.resting with h | h | h
    · rw [h]; rfl
    · rw [h]; rfl
    · exact absurd h hd
  | primitive r _ _ _ hr =>
    obtain ⟨es, n, m, -, rfl | ⟨e, rfl, -⟩⟩ := hr.done_or_raised <;> exact ⟨[], .nothing rfl rfl, rfl⟩
  | flushed _ hd => exact ⟨_, flushFromIdle_drvWritten s, by rw [hd]; rfl⟩
  | rendered _ hd =>
    have hdrawn : DrvWritten s (rotateInto (resolvedOpts s).rot180 (renderFb s)) [] := .nothing rfl rfl
    exact ⟨_, hdrawn.trans (flushFromIdle_drvWritten _), by rw [hd]; rfl⟩
  | inited _ hd => exact initDriver_drvWritten hs hd

end Sys2Proof.Machine

/-! PROOFS: the statement about the driver state machine (42_panel_protocol.md R230). -/

namespace Sys2Proof.Proofs

open Sys2Proof Sys2Proof.Machine

/-- Settles O57: the host never writes DRV_STATE, and each operation that does follows the driver state machine; INIT's direct way to
Uninitialized is not open in Idle, where `Inv` has buffers and bus. -/
theorem driverStateMovesAsAllowed : Obligations.DriverStateMovesAsAllowed := by
  intro s t hs h
  suffices ∃ l, DrvWritten s t l ∧ drvChain s.drv l = true by
    obtain ⟨l, ⟨hlog, hlast⟩, hchain⟩ := this
    exact ⟨l, hlog, hchain, hlast⟩
  rcases step_cases h with ⟨-, -, hduring⟩ | ⟨-, -, hrun⟩ | ⟨-, rfl⟩
  · exact ⟨[], (hostTurnDuring_frame hduring).drvWritten, rfl⟩
  · rcases runCommand_cases hrun with ⟨i, -, hshape⟩ | rfl
    · exact hshape.drvWritten hs
    · exact ⟨[], .nothing rfl rfl, rfl⟩
  · exact ⟨[], (hostTurnBetween_frame s).drvWritten, rfl⟩

end Sys2Proof.Proofs

/-! PROOFS: what the parts of the panel protocol leave, field by field, and the reserved bits of its operations. -/

namespace Sys2Proof.Machine

open Sys2Proof

/-! ## Reserved bits (30_encoding.md R120 step 2) -/

theorem decode_resetPanel_reserved {imm : BitVec 24} (himm : imm ≠ 0#24) :
    decode (0x10#8 ++ imm) = .error (.reservedBits 0x10#8) := by
  rw [decode, opcField_N]
  exact whenReserved_refuses (by rw [immField_N, beq_false_of_ne himm]) (opcField_N _ _) _

theorem decodeB_reserved {imm : BitVec 16} (himm : imm ≠ 0#16) (o : BitVec 8) (b : Byte) (i : Byte → Instr) :
    decodeB (o ++ imm ++ b) i = .error (.reservedBits o) :=
  whenReserved_refuses (by rw [reserved_B, beq_false_of_ne himm]) (opcField_B _ _ _) _

theorem decode_writeCmd_reserved {imm : BitVec 16} (himm : imm ≠ 0#16) (b : Byte) :
    decode (0x12#8 ++ imm ++ b) = .error (.reservedBits 0x12#8) := by
  rw [decode, opcField_B]
  exact decodeB_reserved himm _ b _

theorem decode_writeData_reserved {imm : BitVec 16} (himm : imm ≠ 0#16) (b : Byte) :
    decode (0x13#8 ++ imm ++ b) = .error (.reservedBits 0x13#8) := by
  rw [decode, opcField_B]
  exact decodeB_reserved himm _ b _

/-! ## The lines a part leaves -/

/-- A busy-wait of `k` samples of 0 and a last sample touches the trace and the samples alone (42_panel_protocol.md R235). -/
theorem afterWire_poll (k : Nat) (v : Level) (s : State) : afterWire (pollEvents k ++ [.sample v]) 0 (k + 1) s =
    { s with trace := s.trace ++ pollEvents k ++ [.sample v], busy := Draws.skip (k + 1) s.busy } := by
  simp [afterWire, lineAfter_pollEvents, lineAfter]

/-- A frame around the events `es`, which drive no line, leaves DC where it drove it and CS high (20_memory.md R94). -/
theorem afterWire_frame {dc : Level} {es : List Event}
    (h : ∀ p v, lineAfter p v (es ++ [.pin .cs true]) = lineAfter p v [.pin .cs true])
    (n m : Nat) (s : State) : afterWire (.pin .dc dc :: .pin .cs false :: (es ++ [.pin .cs true])) n m s =
      { s with
        trace := s.trace ++ .pin .dc dc :: .pin .cs false :: (es ++ [.pin .cs true])
        pinDc := some dc, pinCs := some true, xfer := Draws.skip n s.xfer, busy := Draws.skip m s.busy } := by
  simp [afterWire, lineAfter, h]

theorem afterWire_bufferFrame (cfg : Config) (img : Image) (n m : Nat) (s : State) : afterWire (bufferFrameEvents cfg img) n m s =
    { s with
      trace := s.trace ++ bufferFrameEvents cfg img
      pinDc := some (!cfg.dcCmdLevel), pinCs := some true, xfer := Draws.skip n s.xfer, busy := Draws.skip m s.busy } := by
  rw [bufferFrameEvents_eq]
  exact afterWire_frame (fun p v => lineAfter_bytes p v _ _) n m s

/-- A buffer frame that ends with the failed transfer `c` (42_panel_protocol.md R241). -/
theorem afterWire_brokenFrame {f : Nat → List Byte} (dc : Level) (l : List Nat) (c : List Byte) (n m : Nat) (s : State) :
    afterWire ([.pin .dc dc, .pin .cs false] ++ l.map (fun j => Event.bytes (f j)) ++ [.bytesFailed c, .pin .cs true]) n m s =
      { s with
        trace := s.trace ++ [.pin .dc dc, .pin .cs false] ++ l.map (fun j => Event.bytes (f j)) ++ [.bytesFailed c, .pin .cs true]
        pinDc := some dc, pinCs := some true, xfer := Draws.skip n s.xfer, busy := Draws.skip m s.busy } := by
  have hlines (p : Pin) (v : Option Level) : lineAfter p v ((l.map f).map Event.bytes ++ [.bytesFailed c] ++ [.pin .cs true])
      = lineAfter p v [.pin .cs true] := by
    rw [List.append_assoc, lineAfter_bytes]
    rfl
  simpa [Function.comp_def] using afterWire_frame (dc := dc) hlines n m s

/-- The buffer frame is one data frame of all the image's bytes (42_panel_protocol.md R242). -/
theorem framesFrom_bufferFrame (cfg : Config) (dc : Option Level) {img : Image} (h : img.length = 192000) :
    framesFrom dc none (bufferFrameEvents cfg img) = [⟨some (!cfg.dcCmdLevel), img, false⟩] := by
  rw [bufferFrameEvents_eq]
  simp [framesFrom, framesFrom_bytes, flatten_chunksOf h]

theorem errinfoWord_stage (stage : Byte) : errinfoWord stage 0 = 0#24 ++ stage := rfl

/-! ## One byte -/

theorem transfersOk_one_iff {s : State} : TransfersOk s 1 ↔ xferNow s = true := by
  refine ⟨xferNow_of_TransfersOk, fun h k hk => ?_⟩
  rw [Nat.lt_one_iff.1 hk]
  exact h

/-- WRITE_CMD and WRITE_DATA at their DC level (42_panel_protocol.md R237 to R240). -/
theorem outcome_sendByte (dc : Level) (b : Byte) {s : State} (hb : s.busReady = true) :
    (TransfersOk s 1 → outcome (requireState s.busReady s (sendByte dc b 0x06 0 s)) = .next (endedOk { s with
        trace := s.trace ++ [.pin .dc dc, .pin .cs false, .bytes [b], .pin .cs true]
        pinDc := some dc, pinCs := some true, xfer := Draws.skip 1 s.xfer }))
      ∧ (¬TransfersOk s 1 → outcome (requireState s.busReady s (sendByte dc b 0x06 0 s)) =
          .next (endedWith .busError 0x00000006#32 { s with
            trace := s.trace ++ [.pin .dc dc, .pin .cs false, .bytesFailed [b], .pin .cs true]
            pinDc := some dc, pinCs := some true, xfer := Draws.skip 1 s.xfer })) := by
  refine ⟨fun hx => ?_, fun hx => ?_⟩ <;> rw [outcome_requireState hb, sendByte_eq]
  · rw [if_pos (transfersOk_one_iff.1 hx)]
    rfl
  · rw [if_neg (mt transfersOk_one_iff.2 hx)]
    rfl

/-! ## Step lists -/

theorem Res.andThen_assoc (r : Res) (f g : State → Res) :
    Res.andThen (Res.andThen r f) g = Res.andThen r fun s => Res.andThen (f s) g := by cases r <;> rfl

/-- A list of init steps runs its front, then its back from the index reached (42_panel_protocol.md R243). -/
theorem runSteps_append (stage : Byte) (front back : List InitStep) (j : Nat) (s : State) :
    runSteps stage (front ++ back) j s = Res.andThen (runSteps stage front j s) (runSteps stage back (j + front.length)) := by
  induction front generalizing j s with
  | nil => rfl
  | cons st rest ih =>
    show Res.andThen (runStep stage j st s) (runSteps stage (rest ++ back) (j + 1))
      = Res.andThen (Res.andThen (runStep stage j st s) (runSteps stage rest (j + 1))) _
    rw [Res.andThen_assoc]
    congr 1
    funext t
    rw [ih, List.length_cons, Nat.add_assoc, Nat.add_comm 1]

/-- The first step that raises an error ends the list with it (42_panel_protocol.md R243). -/
theorem runSteps_stops {stage : Byte} {front back : List InitStep} {st : InitStep} {j : Nat} {s s1 s2 : State} {e : OpError}
    (hfront : runSteps stage front j s = .done s1) (hst : runStep stage (j + front.length) st s1 = .raised e s2) :
    runSteps stage (front ++ st :: back) j s = .raised e s2 := by
  rw [runSteps_append, hfront]
  show Res.andThen (runStep stage _ st s1) _ = _
  rw [hst]
  rfl

/-- The two list operations on a configured bus (42_panel_protocol.md R244, R246). -/
theorem exec_listOperation {s : State} (hb : s.busReady = true) :
    ∀ p ∈ [(Instr.initSeq, 0x01#8, Config.initTable), (.turnOnDisplay, 0x02#8, Config.turnOnSeq)],
      exec p.1 s = .next (Res.finish (runSteps p.2.1 (p.2.2 s.cfg) 0 s)) := by
  simp only [List.mem_cons, List.not_mem_nil, or_false]
  rintro p (rfl | rfl)
  · exact outcome_requireState hb
  · exact outcome_requireState hb

end Sys2Proof.Machine

/-! PROOFS: the statements about the panel protocol (42_panel_protocol.md R231 to R246). -/

namespace Sys2Proof.Proofs

open Sys2Proof Sys2Proof.Machine

/-- Settles O36: the reset waveform is one protocol part, whose last drive of RST is high. -/
theorem resetPanelWaveform : Obligations.ResetPanelWaveform := by
  refine fun s => ⟨decodeOfEncode .resetPanel, fun imm himm => decode_resetPanel_reserved himm,
    fun hb => (outcome_requireState hb).trans ?_, fun hb => outcome_requireState_absent hb⟩
  rw [resetPanel_eq_afterWire]
  rfl

/-- Settles O37: a poll that is ready at sample `k`, and one that never is. -/
theorem waitBusyEndsInTime : Obligations.WaitBusyEndsInTime := by
  refine fun stage timeout s => ⟨decodeOfEncode (.waitBusy stage timeout), fun hb => outcome_requireState_absent hb,
    fun hb k hk h0 h1 => ?_, fun hb h0 => ?_⟩ <;> refine (outcome_requireState hb).trans ?_
  · rw [waitBusy, pollBusy_ready stage 0 _ k s hk h0 h1, afterWire_poll]
    rfl
  · rw [waitBusy, pollBusy_timeout stage 0 _ s h0, afterWire_poll, finish_raised, errinfoWord_stage]

/-- Settles O38: both operations are `sendByte`, at the two levels of DC. -/
theorem byteFrames : Obligations.ByteFrames := by
  intro b s p hp
  simp only [List.mem_cons, List.not_mem_nil, or_false] at hp
  rcases hp with rfl | rfl
  · exact ⟨decodeOfEncode (.writeCmd b), fun imm himm => decode_writeCmd_reserved himm b, fun hb => outcome_requireState_absent hb,
      fun hb => (outcome_sendByte _ b hb).1, fun hb => (outcome_sendByte _ b hb).2⟩
  · exact ⟨decodeOfEncode (.writeData b), fun imm himm => decode_writeData_reserved himm b, fun hb => outcome_requireState_absent hb,
      fun hb => (outcome_sendByte _ b hb).1, fun hb => (outcome_sendByte _ b hb).2⟩

/-- Settles O39: the chunks put together are TB's image, under one assertion of CS. -/
theorem writeBufferSendsTheTransferBuffer : Obligations.WriteBufferSendsTheTransferBuffer := by
  refine fun s hb hx => ⟨(outcome_requireState hb).trans ?_, framesFrom_bufferFrame _ _ (length_tbImage s),
    fun htb i hi => Memory.getElem?_image _ htb hi⟩
  rw [sendBuffer_ok _ s hx, afterWire_bufferFrame]
  rfl

/-- Settles O40: the chunks before the failing one, its failed transfer, and CS released. -/
theorem writeBufferStopsAtTheFailingChunk : Obligations.WriteBufferStopsAtTheFailingChunk := by
  refine fun s k hb hk hx hf => (outcome_requireState hb).trans ?_
  rw [sendBuffer_fail _ s hk hx hf, afterWire_brokenFrame]
  rfl

/-- Settles O41: the list is split at the failing step. -/
theorem sequencerStopsAtTheFirstError : Obligations.SequencerStopsAtTheFirstError := by
  refine ⟨fun stage front back st j s s1 s2 e hfront hst => runSteps_stops hfront hst,
    fun stage st j s s2 e hst => runStep_raised hst, fun p hp => ⟨fun front back st s s1 s2 e hb hl hfront hst => ?_,
      fun s t hb ht herr => ?_⟩⟩
  · have hst' : runStep p.2.1 (0 + front.length) st s1 = .raised e s2 := by rwa [Nat.zero_add]
    obtain ⟨hstage, hstep, -⟩ := runStep_raised hst
    rw [exec_listOperation hb p hp, hl, runSteps_stops hfront hst', finish_raised, hstage, hstep]
    rfl
  · obtain rfl := Host.Outcome.next.inj ((exec_listOperation hb p hp).symm.trans ht)
    cases hr : runSteps p.2.1 (p.2.2 s.cfg) 0 s with
    | done u =>
      rw [hr] at herr
      exact absurd rfl herr
    | raised e u => exact listErrorAt_of_raised hr u

/-- Settles O42: without a failing draw a list is one protocol part. -/
theorem stepListsSendTheirEvents : Obligations.StepListsSendTheirEvents := by
  refine fun s hb => ⟨fun hx hbusy => ?_, fun hx hbusy => ?_⟩ <;> refine (outcome_requireState hb).trans ?_
  · rw [runInitTable, runSteps_ok _ _ _ s hx hbusy, finish_done]
  · rw [runTurnOn, runSteps_ok _ _ _ s hx hbusy, finish_done]

end Sys2Proof.Proofs

/-! PROOFS: the lifecycle operations as whole states: the flush, INIT with and without failure, and what leaves Closed. -/

namespace Sys2Proof.Machine

open Sys2Proof

/-! ## Draws -/

theorem TransfersOk.congr {s t : State} {n : Nat} (h : TransfersOk s n) (hx : t.xfer = s.xfer) : TransfersOk t n := by
  unfold TransfersOk
  rw [hx]
  exact h

theorem BusyReads1.congr {s t : State} {n : Nat} (h : BusyReads1 s n) (hb : t.busy = s.busy) : BusyReads1 t n := by
  unfold BusyReads1
  rw [hb]
  exact h

/-! ## Two writes of DRV_STATE -/

theorem setDrv_setDrv (d e : DrvState) (s : State) :
    State.setDrv e (State.setDrv d s) = { s with drv := e, drvLog := s.drvLog ++ [d, e] } := by
  simp [State.setDrv]

/-! ## Closed -/

/-- Every operation that writes DRV_STATE is a no-op or a StateError in Closed (42_panel_protocol.md R230, R250). -/
theorem ExecShape.drv_of_closed {i : Instr} {s t : State} (h : ExecShape i s t) (hs : s.drv = .closed) : t.drv = .closed := by
  cases h with
  | refused | result | detected | closedAgain | cleared | pixelSet | rotated | panelReset => exact hs
  | closed => rfl
  | primitive r _ _ _ hr => obtain ⟨es, n, m, -, rfl | ⟨e, rfl, -⟩⟩ := hr.done_or_raised <;> exact hs
  | flushed _ hd | rendered _ hd =>
    rw [hs] at hd
    cases hd
  | inited _ hd => exact absurd hs hd

/-! ## INIT: the state on the bus -/

/-- The pin events INIT's bus configuration emits, where it runs (42_panel_protocol.md R233, R249). -/
def initBusEvents (s : State) : List Event := if s.busReady then [] else busConfigEvents s.cfg

theorem withBuffers_eq (s : State) : withBuffers s = { s with
    allocDone := true
    fb := if s.allocDone then s.fb else []
    tb := if s.allocDone then s.tb else []
    alloc := if s.allocDone then s.alloc else Draws.skip 1 s.alloc } := by
  rcases Bool.eq_false_or_eq_true s.allocDone with h | h
  · rw [withBuffers_of_done h, if_pos h, if_pos h, if_pos h, ← h]
  · rw [withBuffers_of_absent h, h]
    rfl

theorem busConfigured_eq_afterWire (s : State) :
    busConfigured s = { afterWire (busConfigEvents s.cfg) 0 0 s with busReady := true } := by
  simp [busConfigured, setPin_eq_afterWire, afterWire_afterWire, busConfigEvents, dcData]

theorem withBus_eq (s : State) : withBus s = { afterWire (initBusEvents s) 0 0 s with
    busReady := true
    busCfg := if s.busReady then s.busCfg else Draws.skip 1 s.busCfg } := by
  rcases Bool.eq_false_or_eq_true s.busReady with h | h
  · rw [withBus_of_ready h, initBusEvents, if_pos h, if_pos h, afterWire_nil, ← h]
  · rw [withBus_of_absent h, initBusEvents, h, busConfigured_eq_afterWire]
    rfl

/-- INIT's state on the configured bus, with the events `es` sent (42_panel_protocol.md R249). -/
theorem afterWire_initBusReady (es : List Event) (n m : Nat) (s : State) : afterWire es n m (initBusReady s) =
    { afterWire (initBusEvents s ++ es) n m s with
      drv := .busReady
      drvLog := s.drvLog ++ [.busReady]
      allocDone := true
      busReady := true
      fb := if s.allocDone then s.fb else []
      tb := if s.allocDone then s.tb else []
      alloc := if s.allocDone then s.alloc else Draws.skip 1 s.alloc
      busCfg := if s.busReady then s.busCfg else Draws.skip 1 s.busCfg } := by
  have hwire := afterWire_afterWire (initBusEvents s) es 0 0 n m s
  rw [Nat.zero_add, Nat.zero_add] at hwire
  rw [← hwire, initBusReady, withBus_eq, withBuffers_eq]
  rfl

theorem initBusReady_cfg (s : State) : (initBusReady s).cfg = s.cfg := by
  rw [initBusReady, withBus_eq, withBuffers_eq]
  rfl

theorem initBusReady_xfer (s : State) : (initBusReady s).xfer = s.xfer := by
  rw [initBusReady, withBus_eq, withBuffers_eq]
  rfl

theorem initBusReady_busy (s : State) : (initBusReady s).busy = s.busy := by
  rw [initBusReady, withBus_eq, withBuffers_eq]
  rfl

/-! ## INIT from BusReady on, without failure -/

/-- The image every pixel of which is white (42_panel_protocol.md R249). -/
def whiteImage (cfg : Config) : Image := fillImage (packNibbles (paletteCode cfg .white) (paletteCode cfg .white))

theorem fbImage_clearFb (c : Nibble) (s : State) : fbImage (clearFb c s) = fillImage (packNibbles c c) :=
  Memory.image_ofImage _ (length_fillImage _)

/-- Both buffers white (42_panel_protocol.md R249). -/
theorem initWhite_eq (s : State) :
    initWhite s = { s with fb := Memory.ofImage (whiteImage s.cfg), tb := Memory.ofImage (whiteImage s.cfg) } := by
  show State.setTb (Memory.ofImage (fbImage (clearFb _ s))) _ = _
  rw [fbImage_clearFb]
  rfl

theorem tbImage_initWhite (s : State) : tbImage (initWhite s) = whiteImage s.cfg := by
  rw [initWhite_eq]
  exact Memory.image_ofImage _ (length_fillImage _)

/-- Reset, init table, white image and flush, none of which fails (42_panel_protocol.md R249, R251). -/
theorem initTail_ok {s : State} (hx : TransfersOk s (listTransfers s.cfg.initTable + flushTransfers s.cfg))
    (hb : BusyReads1 s (listWaits s.cfg.initTable + listWaits s.cfg.turnOnSeq)) :
    initTail s = .done (State.setDrv .idle (State.setDrv .flushing (initWhite (State.setDrv .panelConfigured
      (afterWire (resetEvents ++ stepsEvents s.cfg s.cfg.initTable ++ flushEvents s.cfg (whiteImage s.cfg))
        (listTransfers s.cfg.initTable + flushTransfers s.cfg) (listWaits s.cfg.initTable + listWaits s.cfg.turnOnSeq) s))))) := by
  have htable : initPanel s = .done (State.setDrv .panelConfigured (afterWire (resetEvents ++ stepsEvents s.cfg s.cfg.initTable)
      (listTransfers s.cfg.initTable) (listWaits s.cfg.initTable) s)) := by
    rw [initPanel, resetPanel_eq_afterWire, runInitTable, runSteps_ok, afterWire_afterWire, Nat.zero_add, Nat.zero_add]
    · rfl
    · exact (hx.mono (Nat.le_add_right _ _)).congr rfl
    · exact (hb.mono (Nat.le_add_right _ _)).congr rfl
  rw [initTail, htable]
  show Res.andThen (flushPanel (State.setDrv .flushing (initWhite _))) _ = _
  rw [flushPanel_ok]
  · show Res.done (State.setDrv .idle (afterWire (flushEvents _ (tbImage (initWhite _))) _ _ _)) = _
    rw [tbImage_initWhite, ← afterWire_afterWire]
    rfl
  · exact (hx.afterWire [] 0).congr rfl
  · exact (hb.afterWire [] 0).congr rfl

/-! ## INIT from BusReady on, whatever the draws -/

/-- INIT from BusReady on keeps buffers and bus, and comes to Idle or back to Uninitialized with an error of its table or of its flush
(42_panel_protocol.md R249, 60_exceptions.md R324, R329). -/
structure InitTailEnds (s t : State) : Prop where
  allocDone : t.allocDone = s.allocDone
  busReady  : t.busReady = s.busReady
  ending    : (t.err = .ok ∧ t.drv = .idle)
    ∨ (t.drv = .uninitialized ∧ (t.err = .busError ∨ t.err = .timeoutError)
        ∧ (ListErrorAt 0x01 s.cfg.initTable t ∨ FlushErrorAt s.cfg t))

theorem initTail_ends (s : State) :
    InitTailEnds s (Res.finish (Res.onError (initTail s) (State.setDrv .uninitialized))) := by
  rcases initTail_cases s with ⟨es, n, m, e, -, he, hat, hr⟩ | ⟨es, n, m, -, ⟨e, he, hat, hr⟩ | hr⟩ <;> rw [hr]
  · exact ⟨rfl, rfl, .inr ⟨rfl, he, .inl (hat _)⟩⟩
  · exact ⟨rfl, rfl, .inr ⟨rfl, he, .inr (hat _)⟩⟩
  · exact ⟨rfl, rfl, .inl ⟨rfl, rfl⟩⟩

theorem exec_init {s : State} (hd : s.drv ≠ .closed) : exec .init s = .next (Res.finish (initDriver s)) :=
  outcome_requireState (bne_iff_ne.2 hd)

end Sys2Proof.Machine

/-! PROOFS: the statements about the lifecycle (42_panel_protocol.md R247 to R250). -/

namespace Sys2Proof.Proofs

open Sys2Proof Sys2Proof.Machine

/-- Settles O43: the flush without failure is one protocol part between two writes of DRV_STATE. -/
theorem flushSendsTheTransferBuffer : Obligations.FlushSendsTheTransferBuffer := by
  intro s hd hx hb
  refine (outcome_requireState (beq_iff_eq.2 hd)).trans ?_
  rw [flushFromIdle_ok s hx hb, setDrv_setDrv]
  rfl

/-- Settles O45: buffers and bus where missing, then the protocol parts of INIT one after another. -/
theorem initSucceeds : Obligations.InitSucceeds := by
  intro s hd ha hb hx hbusy
  have ha' : s.allocDone = true ∨ allocNow s = true := (Bool.eq_false_or_eq_true s.allocDone).imp_right ha
  have hb' : s.busReady = true ∨ busCfgNow s = true := (Bool.eq_false_or_eq_true s.busReady).imp_right hb
  have hcfg : (initBusReady s).cfg = s.cfg := initBusReady_cfg s
  rw [exec_init hd, initDriver_of_onBus ha' hb', initTail_ok]
  · rw [afterWire_initBusReady, hcfg, initWhite_eq, setDrv_setDrv]
    simp only [State.setDrv, List.append_assoc, List.cons_append, List.nil_append]
    rfl
  · rw [hcfg]
    exact hx.congr (initBusReady_xfer s)
  · rw [hcfg]
    exact hbusy.congr (initBusReady_busy s)

/-- Settles O46, by how INIT begins. -/
theorem initFailureLeavesUninitialized : Obligations.InitFailureLeavesUninitialized := by
  intro s t hd h
  rw [exec_init hd] at h
  obtain rfl := Host.Outcome.next.inj h
  have hbegins := initDriver_begins s
  generalize initDriver s = r at hbegins
  cases hbegins with
  | noBuffers ha =>
    exact ⟨.inr ⟨rfl, .inl rfl⟩, fun _ _ => rfl, fun hdone _ _ => absurd (.inl hdone) ha,
      fun _ hnow _ _ => absurd (.inr hnow) ha, fun hok => absurd hok ha, fun hdone _ => absurd (.inl hdone) ha, fun hready => hready⟩
  | noBus ha hb =>
    refine ⟨.inr ⟨rfl, .inr (.inl rfl)⟩, fun hdone hnow => by simp [hdone, hnow] at ha, fun hdone _ _ => ?_, fun hdone _ _ _ => ?_,
      fun _ => withBuffers_allocDone s, fun _ hok => absurd hok hb, fun hready => absurd (.inl hready) hb⟩
    · rw [withBuffers_of_done hdone]
      rfl
    · rw [withBuffers_of_absent hdone]
      exact ⟨rfl, fun a => ⟨rfl, rfl⟩⟩
  | onBus ha hb =>
    obtain ⟨hdone, hready, hending⟩ := initTail_ends (initBusReady s)
    rw [initBusReady_cfg] at hending
    refine ⟨hending.imp_right fun ⟨hdrv, herr, _⟩ => ⟨hdrv, .inr herr⟩, fun hno hnow => by simp [hno, hnow] at ha,
      fun _ hno hnow => by simp [hno, hnow] at hb, fun _ _ hno hnow => by simp [hno, hnow] at hb,
      fun _ => hdone.trans (initBusReady_allocDone s), fun _ _ => ⟨hready.trans (initBusReady_busReady s), fun hne => ?_⟩,
      fun _ => hready.trans (initBusReady_busReady s)⟩
    rcases hending with ⟨hok, -⟩ | ⟨-, -, hat⟩
    · exact absurd hok hne
    · exact hat

/-- Settles O47; that Closed is terminal is read off the shapes an operation can end in. -/
theorem closeReleasesEverything : Obligations.CloseReleasesEverything := by
  refine fun s => ⟨fun hd => ?_, fun hd => ?_, fun i t hd h => (shape_of_exec h).drv_of_closed hd⟩
  · show outcome (.done (if s.drv == .closed then s else closeDriver s)) = _
    rw [if_neg (mt beq_iff_eq.1 hd)]
    rfl
  · show outcome (.done (if s.drv == .closed then s else closeDriver s)) = _
    rw [if_pos (beq_iff_eq.2 hd)]
    rfl

end Sys2Proof.Proofs

/-! PROOFS: what RENDER does: how its checks end it, the buffers and registers its flush finds, and everything that flush can leave. -/

namespace Sys2Proof.Machine

open Sys2Proof

/-! ## The checks (43_render.md R291) -/

section
variable {s : State}

theorem exec_render_illegal (hr : s.arg0.extractLsb' 2 30 ≠ 0#30) : exec .render s = .next (endedWith .illegalCommand 0#32 s) :=
  outcome_requireLegal_illegal (mt beq_iff_eq.1 hr)

variable (hr : s.arg0.extractLsb' 2 30 = 0#30)
include hr

theorem exec_render_notIdle (hd : s.drv ≠ .idle) : exec .render s = .next (endedWith .stateError 0#32 s) :=
  (outcome_requireLegal (beq_iff_eq.2 hr)).trans (outcome_requireState_absent (beq_false_of_ne hd))

theorem exec_render_noSource (hd : s.drv = .idle) (hv : s.arg0.getLsbD 0 = false) :
    exec .render s = .next (endedWith .formatError 0#32 s) :=
  (outcome_requireLegal (beq_iff_eq.2 hr)).trans
    ((outcome_requireState (beq_iff_eq.2 hd)).trans (outcome_requireSource_invalid hv))

theorem exec_render (hd : s.drv = .idle) (hv : s.arg0.getLsbD 0 = true) :
    exec .render s = .next (Res.finish (renderAndFlush s)) :=
  (outcome_requireLegal (beq_iff_eq.2 hr)).trans ((outcome_requireState (beq_iff_eq.2 hd)).trans (outcome_requireSource hv))

end

/-! ## What the flush of RENDER finds (43_render.md R292 steps 3 to 7) -/

@[simp] theorem renderFb_fb (s : State) : (renderFb s).fb = Memory.ofImage (renderedImage s) := rfl

theorem wf_renderFb (s : State) : Memory.wf (renderFb s).fb = true := Memory.wf_ofImage (le_of_eq (length_renderedImage s))

@[simp] theorem fbImage_renderFb (s : State) : fbImage (renderFb s) = renderedImage s :=
  Memory.image_ofImage Config.fbFresh (length_renderedImage s)

@[simp] theorem tbImage_rotateInto (b : Bool) (s : State) : tbImage (rotateInto b s) = rotateImage b (fbImage s) :=
  Memory.image_ofImage Config.tbFresh (by rw [length_rotateImage, length_fbImage])

@[simp] theorem tb_rotateInto_renderFb (b : Bool) (s : State) :
    (rotateInto b (renderFb s)).tb = Memory.ofImage (rotateImage b (renderedImage s)) := by
  rw [rotateInto, State.setTb_tb, fbImage_renderFb]

theorem rotateInto_renderFb_eq (b : Bool) (s : State) : rotateInto b (renderFb s) = { s with
    fb := Memory.ofImage (renderedImage s)
    tb := Memory.ofImage (rotateImage b (renderedImage s))
    effopt := effoptWord (resolvedOpts s)
    sixColor := renderSix s } := by
  rw [rotateInto, fbImage_renderFb]
  rfl

/-- Every pixel of the rendered FB is mapped from its own sample (43_render.md R294). -/
theorem fbNib_renderFb (s : State) {x y : Nat} (hx : x ≤ 799) (hy : y ≤ 479) : fbNib (renderFb s) x y =
    pixelCode s.cfg s.source (srcTransposed s.arg0) (renderSix s) (resolvedOpts s).ordered (resolvedOpts s).tol x y := by
  rw [fbNib, renderFb_fb, renderedImage, renderImage_eq_pixelImage]
  exact Memory.getNib_ofImage_pixelImage _ _ hx hy

/-! ## The flush of RENDER -/

/-- RENDER's parts without failure (43_render.md R292, 42_panel_protocol.md R251 items 4 to 6). -/
theorem renderAndFlush_ok {s : State} (hx : TransfersOk s (flushTransfers s.cfg)) (hb : BusyReads1 s (listWaits s.cfg.turnOnSeq)) :
    renderAndFlush s = .done
      { afterWire (flushEvents s.cfg (rotateImage (resolvedOpts s).rot180 (renderedImage s))) (flushTransfers s.cfg)
          (listWaits s.cfg.turnOnSeq) s with
        drv := .idle
        drvLog := s.drvLog ++ [.flushing, .idle]
        fb := Memory.ofImage (renderedImage s)
        tb := Memory.ofImage (rotateImage (resolvedOpts s).rot180 (renderedImage s))
        effopt := effoptWord (resolvedOpts s)
        sixColor := renderSix s } := by
  have hflush := flushFromIdle_ok (rotateInto (resolvedOpts s).rot180 (renderFb s)) (hx.congr rfl) (hb.congr rfl)
  rw [tbImage_rotateInto, fbImage_renderFb, setDrv_setDrv] at hflush
  rw [renderAndFlush, hflush, rotateInto_renderFb_eq]
  rfl

/-- What `t` keeps of RENDER begun in `s`, whatever the flush does, and how it ended (43_render.md R293). -/
structure RenderEnds (s t : State) : Prop where
  drv      : t.drv = .idle
  fb       : t.fb = (renderFb s).fb
  tb       : t.tb = (rotateInto (resolvedOpts s).rot180 (renderFb s)).tb
  effopt   : t.effopt = effoptWord (resolvedOpts s)
  sixColor : t.sixColor = renderSix s
  ending   : (t.err = .ok ∧ t.errinfo = s.errinfo) ∨ ((t.err = .busError ∨ t.err = .timeoutError) ∧ FlushErrorAt s.cfg t)

theorem renderAndFlush_ends (s : State) : RenderEnds s (Res.finish (renderAndFlush s)) := by
  rw [renderAndFlush]
  obtain ⟨es, n, m, -, h | ⟨e, h, he, hat⟩⟩ := flushFromIdle_cases (rotateInto (resolvedOpts s).rot180 (renderFb s)) <;> rw [h]
  · exact ⟨rfl, rfl, rfl, rfl, rfl, .inl ⟨rfl, rfl⟩⟩
  · exact ⟨rfl, rfl, rfl, rfl, rfl, .inr ⟨he, hat _⟩⟩

theorem renderEnds_of_exec {s t : State} (hr : s.arg0.extractLsb' 2 30 = 0#30) (hd : s.drv = .idle) (hv : s.arg0.getLsbD 0 = true)
    (h : exec .render s = .next t) : RenderEnds s t := by
  obtain rfl := Host.Outcome.next.inj ((exec_render hr hd hv).symm.trans h)
  exact renderAndFlush_ends s

end Sys2Proof.Machine

/-! PROOFS: the statements about RENDER (43_render.md). -/

namespace Sys2Proof.Proofs

open Sys2Proof Sys2Proof.Machine

/-- Settles O48: the flush without failure, of the buffers RENDER has made. -/
theorem renderSucceeds : Obligations.RenderSucceeds := by
  refine ⟨fun _ _ _ _ => ⟨rfl, rfl, rfl⟩, fun s hd hr hv hx hb => ?_⟩
  rw [exec_render hr hd hv, renderAndFlush_ok hx hb]
  rfl

/-- Settles O49: the flush leaves FB, whose pixels are those of the rendered image. -/
theorem renderMapsEveryPixelAlone : Obligations.RenderMapsEveryPixelAlone := by
  intro s t hd hr hv h _ _ x y hx hy
  rw [fbNib, (renderEnds_of_exec hr hd hv h).fb]
  exact fbNib_renderFb s hx hy

/-- Settles O50: the flush leaves both buffers, and TB is what the rotation made of FB. -/
theorem renderRotatesIntoTheTransferBuffer : Obligations.RenderRotatesIntoTheTransferBuffer := by
  intro s t hd hr hv h
  have hends := renderEnds_of_exec hr hd hv h
  refine ⟨fun hzero i hi => ?_, fun hne x y hx hy => ?_⟩
  · have hrot : (resolvedOpts s).rot180 = false := rawRot180_of_eq_zero hzero
    rw [tbRead, fbRead, hends.tb, hends.fb, hrot]
    exact tbRead_rotateInto_false (wf_renderFb s) hi
  · have hrot : (resolvedOpts s).rot180 = true := rawRot180_of_ne_zero hne
    rw [tbNib, fbNib, hends.tb, hends.fb, hrot]
    exact tbNib_rotateInto_true (wf_renderFb s) hx hy

/-- Settles O51: the checks in their order, then whatever the flush does. -/
theorem renderOutcomes : Obligations.RenderOutcomes := by
  refine fun s => ⟨exec_render_illegal, exec_render_notIdle, exec_render_noSource, fun hr hd hv => ?_⟩
  obtain ⟨hdrv, hfb, htb, heffopt, hsix, hending⟩ := renderAndFlush_ends s
  rw [tb_rotateInto_renderFb] at htb
  refine ⟨_, exec_render hr hd hv, hdrv, ?_, hfb, htb, heffopt, hsix, ?_⟩ <;> rcases hending with ⟨hok, hinfo⟩ | ⟨herr, hat⟩
  · exact .inl hok
  · exact .inr herr
  · exact ⟨fun _ => hinfo, fun hne => absurd hok hne⟩
  · exact ⟨fun hok => by simp [hok] at herr, fun _ => hat⟩

end Sys2Proof.Proofs

/-! PROOFS: the errors of 60_exceptions.md: the flush one of whose first 40 transfers fails, and which operations raise StateError. -/

namespace Sys2Proof.Machine

open Sys2Proof

/-! ## The first failing transfer of a flush (60_exceptions.md R324) -/

/-- Transfer 0 is the data-start command, transfer `k + 1` is chunk `k` of TB: STEP counts transfers (42_panel_protocol.md R241, R247). -/
theorem flushPanel_fail {s : State} {k : Nat} (hk : k ≤ 39) (hx : TransfersOk s k) (hf : Draws.ahead Config.xferOk s.xfer k = false) :
    ∃ u, flushPanel s = .raised ⟨.busError, 0x03, k⟩ u := by
  rw [flushPanel, writeCommand]
  cases k with
  | zero =>
    have hnow : ¬xferNow s = true := Bool.eq_false_iff.1 hf
    rw [sendByte_eq, if_neg hnow]
    exact ⟨_, rfl⟩
  | succ k =>
    rw [sendByte_ok (xferNow_of_TransfersOk hx)]
    show ∃ u, Res.andThen (sendBuffer 0x03 _) runTurnOn = _
    rw [sendBuffer_fail _ _ (Nat.lt_of_succ_le hk)]
    · exact ⟨_, rfl⟩
    · exact TransfersOk.afterWire (Nat.add_comm k 1 ▸ hx) _ 0
    · rw [afterWire_xfer, Draws.ahead_skip, Nat.add_comm]
      exact hf

theorem flushFromIdle_fail {s : State} {k : Nat} (hk : k ≤ 39) (hx : TransfersOk s k) (hf : Draws.ahead Config.xferOk s.xfer k = false) :
    ∃ u, flushFromIdle s = .raised ⟨.busError, 0x03, k⟩ u := by
  obtain ⟨u, hu⟩ := flushPanel_fail (s := State.setDrv .flushing s) hk hx hf
  rw [flushFromIdle, hu]
  exact ⟨_, rfl⟩

theorem exec_flush {s : State} (hd : s.drv = .idle) : exec .flush s = .next (Res.finish (flushFromIdle s)) :=
  outcome_requireState (beq_iff_eq.2 hd)

/-! ## Which operations raise StateError (60_exceptions.md R340) -/

/-- The protocol primitives, whose precondition is BUS_READY = 1. -/
def needsBus : Instr → Bool
  | .resetPanel | .waitBusy _ _ | .writeCmd _ | .writeData _ | .writeBuffer | .initSeq | .turnOnDisplay => true
  | _ => false

theorem exec_of_needsBus {i : Instr} (hi : needsBus i = true) {s : State} (hb : s.busReady = false) :
    exec i s = .next (endedWith .stateError 0#32 s) := by
  cases i with
  | resetPanel | waitBusy | writeCmd | writeData | writeBuffer | initSeq | turnOnDisplay => exact outcome_requireState_absent hb
  | _ => cases hi

/-- The operations without a state precondition. -/
def runsInEveryState : Instr → Bool
  | .close | .quantize _ _ _ | .matchColor _ _ _ | .dither _ _ _ | .mapPixel _ _ _ | .orient _ _ _ | .autoDetect | .resolveOpts => true
  | _ => false

theorem finish_done_ne_stateError (s : State) : (Res.finish (.done s)).err ≠ .stateError := by
  rw [finish_done]
  exact nofun

theorem finish_requireLegal_ne_stateError {ok : Bool} {s : State} {body : Res} (h : (Res.finish body).err ≠ .stateError) :
    (Res.finish (requireLegal ok s body)).err ≠ .stateError := by
  cases ok
  · exact nofun
  · exact h

theorem finish_requireSource_ne_stateError {ok : Bool} {s : State} {body : Res} (h : (Res.finish body).err ≠ .stateError) :
    (Res.finish (requireSource ok s body)).err ≠ .stateError := by
  cases ok
  · exact nofun
  · exact h

theorem exec_of_runsInEveryState {i : Instr} (hi : runsInEveryState i = true) (s : State) :
    ∃ t, exec i s = .next t ∧ t.err ≠ .stateError := by
  cases i with
  | close | quantize | matchColor | resolveOpts => exact ⟨_, rfl, finish_done_ne_stateError _⟩
  | dither | mapPixel | orient => exact ⟨_, rfl, finish_requireLegal_ne_stateError (finish_done_ne_stateError _)⟩
  | autoDetect =>
    exact ⟨_, rfl, finish_requireLegal_ne_stateError (finish_requireSource_ne_stateError (finish_done_ne_stateError _))⟩
  | _ => cases hi

end Sys2Proof.Machine

/-! PROOFS: the statements about errors (60_exceptions.md). -/

namespace Sys2Proof.Proofs

open Sys2Proof Sys2Proof.Machine

/-- Settles O44: the flush is one protocol part between two writes of DRV_STATE, and its transfers are the command's and the chunks'. -/
theorem flushFailureKeepsTheImage : Obligations.FlushFailureKeepsTheImage := by
  intro s t hd h
  obtain rfl := Host.Outcome.next.inj ((exec_flush hd).symm.trans h)
  have hfirst : ∀ k ≤ 39, TransfersOk s k → Draws.ahead Config.xferOk s.xfer k = false →
      (Res.finish (flushFromIdle s)).err = .busError
        ∧ (Res.finish (flushFromIdle s)).errinfo = 0#8 ++ BitVec.ofNat 16 k ++ 0x03#8 := by
    intro k hk hx hf
    obtain ⟨u, hu⟩ := flushFromIdle_fail hk hx hf
    rw [hu]
    exact ⟨rfl, rfl⟩
  obtain ⟨es, n, m, -, hr | ⟨e, hr, hkind, hat⟩⟩ := flushFromIdle_cases s <;> rw [hr] at hfirst ⊢
  · exact ⟨rfl, rfl, rfl, rfl, rfl, rfl, rfl, rfl, .inl rfl, fun _ => rfl, fun hne => absurd rfl hne, hfirst⟩
  · exact ⟨rfl, rfl, rfl, rfl, rfl, rfl, rfl, rfl, .inr hkind, fun hok => absurd hok (ne_ok_of_protocolError hkind), fun _ => hat _,
      hfirst⟩

/-- Settles O16, row by row of the table of 60_exceptions.md R340. -/
theorem statePreconditions : Obligations.StatePreconditions := by
  refine fun s => ⟨fun hd => ?init, fun hd => ?flush, fun hd hr => exec_render_notIdle hr hd, fun hb i hi => ?bus,
    fun hb stage timeout => exec_of_needsBus rfl hb, fun hb b => ⟨exec_of_needsBus rfl hb, exec_of_needsBus rfl hb⟩,
    fun ha => ⟨outcome_requireState_absent ha, fun c => outcome_requireState_absent ha⟩,
    fun ha x y c hx hy => ⟨outcome_atPixel_absent ha hx hy, outcome_atPixel_absent ha hx hy⟩, fun i hi => ?free,
    fun r g b i hi => ?pixel, fun x y f => exec_of_runsInEveryState rfl s⟩
  case init => exact outcome_requireState_absent (bne_eq_false_iff_eq.2 hd)
  case flush => exact outcome_requireState_absent (beq_false_of_ne hd)
  case bus => exact exec_of_needsBus (List.all_eq_true.1 rfl i hi) hb
  case free => exact exec_of_runsInEveryState (List.all_eq_true.1 rfl i hi) s
  case pixel => exact exec_of_runsInEveryState (List.all_eq_true.1 rfl i hi) s

end Sys2Proof.Proofs

/-! PROOFS: the time a list of events commits to. -/

namespace Sys2Proof.Machine

open Sys2Proof

@[simp] theorem traceDelay_append (a b : List Event) : traceDelay (a ++ b) = traceDelay a + traceDelay b := by
  simp [traceDelay]

@[simp] theorem traceDelay_sample (v : Level) : traceDelay [.sample v] = 0 := rfl

/-- Each retry of a busy-wait commits to one poll interval (42_panel_protocol.md R235). -/
@[simp] theorem traceDelay_pollEvents (k : Nat) : traceDelay (pollEvents k) = 10 * k := by
  induction k with
  | zero => rfl
  | succ k ih =>
    calc traceDelay (pollEvents (k + 1))
        = traceDelay ([.sample false, .delay 10] ++ pollEvents k) := by simp [pollEvents, List.replicate_succ]
      _ = 10 + 10 * k := by rw [traceDelay_append, ih]; rfl
      _ = 10 * (k + 1) := by omega

/-- The reset waveform holds RST high, low and high for 50, 20 and 50 ms (42_panel_protocol.md R234). -/
@[simp] theorem traceDelay_resetEvents : traceDelay resetEvents = 120 := rfl

end Sys2Proof.Machine

/-! PROOFS: the statement about the delays the panel protocol commits to (70_reset_and_hazards.md R372, R374). -/

namespace Sys2Proof.Proofs

open Sys2Proof Sys2Proof.Machine

/-- Settles O60: the events of RESET_PANEL and of WAIT_BUSY are those of O36 and O37, so only their delays are left to sum. A wait that is
ready at sample `k` makes `k` retries and raises no error; one that never is makes all `floor(T/10)` of them. -/
theorem committedDelays : Obligations.CommittedDelays := by
  refine ⟨fun s t hb h => ?reset, fun stage timeout s t hb h => ?wait⟩
  case reset =>
    obtain ⟨-, -, hrun, -⟩ := resetPanelWaveform s
    obtain rfl := Host.Outcome.next.inj ((hrun hb).symm.trans h)
    calc traceDelay (s.trace ++ resetEvents)
        = traceDelay s.trace + traceDelay resetEvents := traceDelay_append _ _
      _ = traceDelay s.trace + 120 := by rw [traceDelay_resetEvents]
  case wait =>
    obtain ⟨-, -, hready, htimeout⟩ := waitBusyEndsInTime stage timeout s
    rcases pollBusy_cases s (timeout.toNat / 10) with ⟨k, hk, h0, h1⟩ | h0
    · obtain rfl := Host.Outcome.next.inj ((hready hb k hk h0 h1).symm.trans h)
      refine ⟨Nat.add_le_add_left (Nat.succ_le_succ hk) _, ?_, fun herr => absurd rfl herr⟩
      simpa [endedOk] using hk
    · obtain rfl := Host.Outcome.next.inj ((htimeout hb h0).symm.trans h)
      have hsum : traceDelay (s.trace ++ pollEvents (timeout.toNat / 10) ++ [.sample false])
          = traceDelay s.trace + 10 * (timeout.toNat / 10) := by simp
      exact ⟨le_rfl, hsum.le, fun _ => hsum⟩

end Sys2Proof.Proofs
